-- ==== Sys2Proof/Word.lean ====
section
/-! DEFINITION. The word types of the HX-24 model (spec/00_scope.md, 'Conventions'): characters of the
serial line, raw readings, four-character numbers and line-clock readings are bits; every other
quantity of the part is a plain integer. -/

namespace Sys2Proof

/-- One character of the serial line, its eight data bits (R178). -/
abbrev Byte := BitVec 8

/-- One raw reading of an analog input, 0 to 65,535 (R120). -/
abbrev Raw := BitVec 16

/-- A number of four characters as a request or reply carries it (R188). -/
abbrev Word := BitVec 32

/-- A reading of the line clock, in milliseconds modulo 2^32 (R137). -/
abbrev Time := BitVec 32

end Sys2Proof
end

