-- ==== Sys2Proof/Syntax.lean ====
section
/-! DEFINITION. The commands of the HX-24: one constructor of `Instr` for each row of
spec/opcode_table.json. A request carries its Tag and the fields of its body at their width on the line
(R184, R188), so that illegal field values can be sent too; an event carries what the field supplies. -/

namespace Sys2Proof

/-- A reader of a completed group B pass (R125). -/
inductive PassReader where
  | atmosphere | attribution | feeder | stations
  deriving DecidableEq, Repr

/-- The two ways a frame fails its check (R180, R182). -/
inductive CheckCause where
  | /-- a complete frame whose check does not match -/ mismatch
  | /-- a Length character above 240 -/ overlong
  deriving DecidableEq, Repr

/-- The commands of the part, in the order of spec/opcode_table.json. Station numbers of events count
from 0: `n` is station `n + 1`. -/
inductive Instr where
  | /-- DEVICE_RESET (R177), with the levels of the ADDR, RATE (high: 115,200) and STATIONS (high: 4) straps -/
    deviceReset (addr : BitVec 5) (rate stations : Bool)
  | admitAppliance (tag : Byte) (ident : Word) (declared : Byte) (charge : Word) (foamClass foamAgent : Byte)
  | queryAppliance (tag selector : Byte) (key : Word)
  | listTable (tag : Byte)
  | withdraw (tag : Byte) (ident : Word)
  | releaseToShred (tag : Byte) (ident : Word)
  | takeClosed (tag : Byte)
  | beginExtraction (tag : Byte) (ident : Word) (station : Byte)
  | abortExtraction (tag station : Byte)
  | waiveExtraction (tag : Byte) (ident : Word)
  | clearStation (tag station : Byte)
  | receiverChanged (tag station : Byte)
  | readStation (tag station : Byte)
  | feedClear (tag : Byte)
  | feedReturn (tag : Byte)
  | inertHoldOn (tag : Byte)
  | inertHoldOff (tag : Byte)
  | tripReset (tag : Byte)
  | drainBegin (tag : Byte)
  | drainEnd (tag : Byte)
  | setConfig (tag item : Byte) (value : Word)
  | readConfig (tag : Byte)
  | setChannel (tag channel : Byte) (zero span low high band : Word)
  | readChannel (tag channel : Byte)
  | setSource (tag index level : Byte)
  | setMask (tag mask attention : Byte)
  | takeNotices (tag : Byte)
  | readStatus (tag : Byte)
  | readTotals (tag : Byte)
  | clearTotals (tag : Byte)
  | lineRun (tag : Byte)
  | lineHold (tag : Byte) (broadcast : Bool)
  | lineStop (tag : Byte) (broadcast : Bool)
  | lineResume (tag : Byte)
  | clearLine (tag : Byte)
  | /-- a good frame addressed to this part whose Kind is not in the catalogue -/ badKind (tag kind : Byte)
  | /-- a good broadcast, by its Kind and Length -/ broadcastIgnored (kind length : Byte)
  | addressCharacter (data : Byte)
  | framing
  | gap
  | check (cause : CheckCause)
  | replyStart
  | replyEnd
  | clampClosedTrue (n : Fin 4)
  | clampOpened (n : Fin 4)
  | clampTimeout (n : Fin 4)
  | scaleUnsettled (n : Fin 4)
  | tPierceExpiry (n : Fin 4)
  | /-- with the ANALYSER pair as sampled, n.1 the high bit -/ probe (n : Fin 4) (pair : BitVec 2)
  | /-- with the ANALYSER pair as sampled where the probe is taken at this expiry (R35) -/
    tEvacExpiry (n : Fin 4) (pair : BitVec 2)
  | tRiseExpiry (n : Fin 4)
  | tDrainExpiry (n : Fin 4)
  | weighingSettleTimeout (n : Fin 4)
  | gateClosedFalse
  | gateClosedTrue
  | tOpenExpiry
  | tPassExpiry
  | tCloseExpiry
  | feedCapture
  | shredderRunningChange (running : Bool)
  | emergencyStopAsserted
  | emergencyStopReleased
  | flowEdge
  | atmospherePeriodExpiry
  | /-- with the raw reading of the channel whose conversion completes -/ groupAConversion (raw : Raw)
  | /-- with the raw readings of B0 to B7, the readers that take the completion first, in their order
    (the others follow in the order of R125), and whether a tick is left as a step of its own -/
    groupBPassCompletion (raw : Vector Raw 8) (first : List PassReader) (tickApart : Bool)
  | attributionTick
  | pwmPeriodEnd
  | characterWithoutMark (data : Byte)
  | purgeOnTimeEnd
  deriving DecidableEq, Repr

end Sys2Proof
end

