-- ==== Sys2Proof/WellFormed.lean ====
section
/-! DEFINITION. Which commands name an event that can occur. Every field of a request is legal at its
width (an illegal value is answered BAD_FIELD, R184), so only the three rows that stand for a class of
frames or for an order carry a condition. -/

namespace Sys2Proof

/-- The Kinds of the catalogue of R184. -/
def kindInCatalogue (kind : Byte) : Bool := 1 ≤ kind.toNat && kind.toNat ≤ 34

/-- The broadcasts the part takes: LINE HOLD (31) and LINE STOP (32) with Length 0 (R186). -/
def broadcastTaken (kind length : Byte) : Bool := (kind == 31 || kind == 32) && length == 0

/-- A command that names an event which can occur. -/
def Instr.wellFormed : Instr → Bool
  | .badKind _ kind => !kindInCatalogue kind
  | .broadcastIgnored kind length => !broadcastTaken kind length && decide (length.toNat ≤ 240)
  | .groupBPassCompletion _ first _ => decide first.Nodup
  | _ => true

end Sys2Proof
end

