-- ==== Sys2Proof/Decode.lean ====
section
/-! DEFINITION. spec/opcode_table.json gives no row bits ("fields" is empty and no row has "fixed"), so
no word spells a command. Frames of the serial line are decoded in Machine/Link.lean. -/

namespace Sys2Proof

/-- The command a word of the opcode table's bits spells: none, since no row of the table has bits. -/
def decodeTableWord (_nbits _w : Nat) : Option Instr := none

end Sys2Proof
end

