-- ==== Sys2Proof/Config.lean ====
section
/-! DEFINITION. What the manual fixes for every part (capacities) and what it leaves open (the opaque
constants: no body, so nothing can be proved of their values). -/

namespace Sys2Proof.Config

/-- MAX_OPEN, the capacity of the open-window set (R17). -/
def maxOpen : Nat := 8

/-- The capacity of the notice queue (R158). -/
def queueRoom : Nat := 32

/-- The places of the notice queue open to levels 0 to 2 (R158). -/
def lowRoom : Nat := 28

/-- The largest value of a total, a receiver's credited mass and a record's attributed foam
(R61, R101, R113). -/
def max32 : Nat := 4294967295

/-- The largest value of a 16-bit saturating count (R61, R147, R183). -/
def max16 : Nat := 65535

/-- FREE VALUE (log 2). Where the part finds several events due at one line-clock reading, the place
in the waiting queue at which each next one falls: "the one taken first decides", and no rule says which
is first (R28, R74, R144). -/
opaque arrivalPlace : Nat → Nat

/-- FREE VALUE (log 3). The readers that take a pass completion first, in their order, where the part
itself queues the completion: R125 gives no order. -/
opaque passOrder : Nat → List PassReader

/-- FREE VALUE (log 3, log 4). Whether the tick of a marked pass the part itself queues is left as a
step of its own behind the other readers. -/
opaque tickApart : Nat → Bool

end Sys2Proof.Config
end

