-- ==== Sys2Proof/Machine/Types.lean ====
section
/-! DEFINITION. The kinds of value the blocks of the HX-24 hold: enumerations by their names in the
manual, and one structure for each block's state. -/

namespace Sys2Proof.Machine

/-- A slot of the Appliance Table, 0 to 47 (R1). -/
abbrev Slot := Fin 48

/-- A station, counted from 0: `n` is station `n + 1` (R25). -/
abbrev StationNo := Fin 4

/-- A channel by its number, A0 to A7 as 0 to 7 and B0 to B7 as 8 to 15 (R120). -/
abbrev ChannelNo := Fin 16

/-- A condition source by its index (R152). -/
abbrev SourceNo := Fin 21

/-- A total by its index (R113). -/
abbrev TotalNo := Fin 20

/-- A configuration item; item number i of R189 is `i - 1`. -/
abbrev Item := Fin 44

/-! ### Appliance records -/

/-- A refrigerant class the part can measure (00_scope, 'Classes'). -/
inductive Gas where
  | chloro | fluoro | hydro
  deriving DecidableEq, Repr

/-- A declared class: a gas, or `none` for UNKNOWN (R2, R7). -/
abbrev Declared := Option Gas

inductive FoamAgent where
  | noAgent | chloro | hydro | unknown
  deriving DecidableEq, Repr

/-- The seven phases of a record (R2, section 1.4). -/
inductive Phase where
  | queued | extracting | extracted | shredWait | feeding | shredding | closed
  deriving DecidableEq, Repr

/-- The extraction verdicts (R64). -/
inductive Verdict where
  | complete | short | empty | unrated | waived | conflict
  deriving DecidableEq, Repr

/-- The foam verdicts (R105). -/
inductive FoamVerdict where
  | adequate | low | noFoam | notShredded
  deriving DecidableEq, Repr

/-- The flags of a record, in the order of the flags field of R191. -/
inductive Flag where
  | classMismatch | classUndetermined | evacTimeout | outgassing | unsettledFinal | negativeClamped
  | massSaturated | ratioSaturated | drainGap | sensorGap | breakthrough | tripDuringWindow
  | feedClearedByHost | flammable
  deriving DecidableEq, Repr

/-- The flag set of a record, each flag present or not (R5). -/
structure Flags where
  classMismatch : Bool := false
  classUndetermined : Bool := false
  evacTimeout : Bool := false
  outgassing : Bool := false
  unsettledFinal : Bool := false
  negativeClamped : Bool := false
  massSaturated : Bool := false
  ratioSaturated : Bool := false
  drainGap : Bool := false
  sensorGap : Bool := false
  breakthrough : Bool := false
  tripDuringWindow : Bool := false
  feedClearedByHost : Bool := false
  flammable : Bool := false
  deriving DecidableEq, Repr

/-- One appliance record (R2, R3). An absent optional field is `none`. -/
structure Record where
  slot : Slot
  ident : Word
  seq : Word
  declared : Declared
  charge : Nat
  foamClass : Fin 7
  foamAgent : FoamAgent
  /-- Expected foam gas E, dg. -/
  expected : Nat
  phase : Phase
  attempts : Nat
  bound : Option StationNo
  used : List StationNo
  measured : Option Gas
  /-- Recovered mass Mr, dg. -/
  mr : Nat
  /-- Oil mass Mo, dg. -/
  mo : Nat
  /-- Recovery ratio ρ, per-mille. -/
  rho : Option Nat
  verdict : Option Verdict
  releaseOrder : Option Word
  feedTime : Option Time
  ticks : Option Nat
  /-- Attributed foam A, dg. -/
  foam : Nat
  /-- Capture ratio γ, per-mille. -/
  gamma : Option Nat
  foamVerdict : Option FoamVerdict
  closeTime : Option Time
  flags : Flags
  deriving DecidableEq, Repr

/-- The Appliance Table (R1, R112). -/
structure Table where
  slots : Vector (Option Record) 48
  seqCtr : Word
  relCtr : Word
  shredQueue : List Slot
  feeding : Option Slot
  openSet : List Slot
  closedList : List Slot
  /-- The saved take of TAKE CLOSED: its Tag and the records it returned (R112). -/
  saved : Option (Byte × List Record)
  deriving DecidableEq, Repr

/-! ### Extraction stations -/

/-- The station states, in the order of R25. -/
inductive StationState where
  | idle | clamping | taring | piercing | evacuating | riseTest | drainingOil | weighing | awaitUnclamp
  | abortWeighing | faulted
  deriving DecidableEq, Repr

/-- The end causes of an attempt (R25). -/
inductive EndCause where
  | abort | stop | clampOpened | conflict | undetermined | receiverFull
  deriving DecidableEq, Repr

/-- The fault causes of a station, and the further value CLAMP_OPENED of a STATION_FAULT_n notice (R152). -/
inductive FaultCause where
  | clampTimeout | scaleUnsettled | receiverFull | clampOpened
  deriving DecidableEq, Repr

/-- A station's receiver record (R51); assigned class `none` is NONE. -/
structure Receiver where
  assigned : Option Gas
  credited : Nat
  count : Nat
  contaminated : Bool
  deriving DecidableEq, Repr

/-- One extraction station (R25, R28, R143, R144). -/
structure Station where
  state : StationState
  bound : Option Slot
  pierced : Bool
  probeTaken : Bool
  attemptClass : Option Gas
  /-- Wt. -/
  tareReceiver : Option Int
  /-- Ot. -/
  tareOil : Option Int
  /-- Wf. -/
  finalReceiver : Option Int
  /-- Of. -/
  finalOil : Option Int
  rises : Nat
  dwellStart : Option Time
  riseRef : Option Int
  endCause : Option EndCause
  faultCause : Option FaultCause
  receiver : Receiver
  /-- The one-shot timer's deadline, absent while it is stopped. -/
  deadline : Option Time
  probeDeadline : Option Time
  /-- P_target, T_dwell (ms) and the fill limit as copied at the entry to EVACUATING, and the rise limit
  as copied at the entry to RISE_TEST (R28). -/
  copyTarget : Nat
  copyDwell : Nat
  copyFill : Nat
  copyRise : Nat
  deriving DecidableEq, Repr

/-! ### Shredder Feeder and Atmosphere Controller -/

inductive FeederState where
  | idle | waitPermit | opening | passing | closing | jammed
  deriving DecidableEq, Repr

inductive JamCause where
  | feedJam | gateStuck | trip | stop
  deriving DecidableEq, Repr

/-- The Shredder Feeder (R70). -/
structure Feeder where
  state : FeederState
  jam : Option JamCause
  lastFeed : Option Time
  /-- T_open, T_pass or T_close in ms, as copied at the present state's entry (R71). -/
  copied : Option Nat
  deadline : Option Time
  deriving DecidableEq, Repr

inductive AtmState where
  | air | inerting | inert | tripped | recovering
  deriving DecidableEq, Repr

/-- A set of trip causes (R86). -/
structure TripCauses where
  lflHigh : Bool
  o2High : Bool
  sensor : Bool
  deriving DecidableEq, Repr

/-- A channel's status (R120). -/
inductive ChannelStatus where
  | noData | ok | faultLow | faultHigh
  deriving DecidableEq, Repr

/-- The Atmosphere Controller's latest readings (R83). -/
structure AtmReadings where
  o2 : Int
  lfl : Int
  o2Status : ChannelStatus
  lflStatus : ChannelStatus
  deriving DecidableEq, Repr

/-- The Atmosphere Controller (R83); lengths in ms. -/
structure Atmosphere where
  state : AtmState
  demand : Bool
  hostHold : Bool
  latest : Option AtmReadings
  holdStart : Option Time
  holdLength : Option Nat
  marginLost : Bool
  tripCauses : Option TripCauses
  duty : Nat
  highDutyStart : Option Time
  highDutyLength : Option Nat
  noFlow : Bool
  deriving DecidableEq, Repr

/-! ### Foam Attribution Unit and Totals -/

inductive DrainState where
  | noDrain | active | ended
  deriving DecidableEq, Repr

/-- What a tick reads of the pass it belongs to: the vessel reading, none in a sensor gap (R95), and the status
and value of B3 (R106). -/
structure TickReadings where
  vessel : Option Nat
  outletStatus : ChannelStatus
  outlet : Int
  deriving DecidableEq, Repr

/-- The Foam Attribution Unit (R92). `tickDue` is present from the completion of a marked pass until its tick is
taken, and holds what the tick reads of that pass (R94, R95, R106, R141). -/
structure Foam where
  baseline : Option Nat
  debt : Nat
  drain : DrainState
  drainStart : Option Nat
  breakthrough : Bool
  tickDue : Option TickReadings
  deriving DecidableEq, Repr

/-- One total with its saturation indicator (R113). -/
structure Total where
  value : Nat
  saturated : Bool
  deriving DecidableEq, Repr

/-! ### Signal Scanner and Timing Unit -/

/-- One channel record (R120); the ring is oldest first (R129). -/
structure Channel where
  zero : Int
  span : Int
  low : Int
  high : Int
  band : Nat
  status : ChannelStatus
  raw : Option Raw
  value : Int
  ring : List Int
  deriving DecidableEq, Repr

/-- A group B pass in progress: its start, whether the postscaler marked it as a tick pass, and the raw
readings held so far (R124, R141). -/
structure Pass where
  started : Time
  marked : Bool
  held : List Raw
  deriving DecidableEq, Repr

/-- The converters: the group A channel whose conversion is under way and the reading at which it
completes (R122), and the group B pass in progress (R124). -/
structure Scan where
  next : Fin 8
  due : Time
  pass : Option Pass
  deriving DecidableEq, Repr

/-- The atmosphere period timer and its postscaler (R139 to R141); the last expiry is absent before the first
(R140). -/
structure Period where
  nextDeadline : Time
  lastExpiry : Option Time
  postscaler : Nat
  deriving DecidableEq, Repr

/-- The FLOW capture channel (R147). -/
structure Flow where
  edges : Nat
  latest : Option Time
  previous : Option Time
  unused : Bool
  overwrites : Nat
  deriving DecidableEq, Repr

/-- The purge PWM (R150) and the PURGE output. -/
structure Pwm where
  start : Time
  length : Nat
  active : Nat
  buffer : Nat
  purge : Bool
  deriving DecidableEq, Repr

/-! ### Condition Arbiter -/

/-- What MARGIN_LOST reports as failed (R88). -/
inductive Margin where
  | o2 | lfl | both
  deriving DecidableEq, Repr

/-- The side of a CHANNEL_FAULT (R131). -/
inductive Side where
  | low | high
  deriving DecidableEq, Repr

/-- The kinds of reception error (R182). -/
inductive LinkError where
  | framing | gap | check | short
  deriving DecidableEq, Repr

inductive LineState where
  | initial | run | hold | stop
  deriving DecidableEq, Repr

/-- The value an owner hands with a raise (R152). -/
inductive Value where
  | trip (c : TripCauses)
  | line (l : LineState)
  | fault (c : FaultCause)
  | jam (c : JamCause)
  | margin (m : Margin)
  | side (s : Side)
  | gas (g : Gas)
  | verdict (v : Verdict)
  | link (e : LinkError)
  | ident (i : Word)
  | number (x : Int)
  deriving DecidableEq, Repr

/-- A pending occurrence (R153). -/
structure Pending where
  time : Time
  subject : Option Nat
  value : Option Value
  repeats : Nat
  deriving DecidableEq, Repr

/-- One source (R153); level `none` is DISABLED. The last four fields belong to LEVEL sources and stay
at their reset values in an EDGE source. -/
structure Source where
  level : Option (Fin 4)
  pending : Option Pending
  cond : Bool
  lastSubject : Option Nat
  lastValue : Option Value
  posted : Bool
  deriving DecidableEq, Repr

/-- One notice (R160). -/
structure Notice where
  source : SourceNo
  level : Fin 4
  time : Time
  subject : Option Nat
  value : Option Value
  repeats : Nat
  deriving DecidableEq, Repr

/-- The Condition Arbiter (R153, R157, R158, R162); the queue is oldest first. -/
structure Arbiter where
  sources : Vector Source 21
  mask : Fin 4
  attention : Fin 4
  queue : List Notice
  saved : Option (Byte × List Notice)
  deriving DecidableEq, Repr

/-! ### Line State and Link Port -/

/-- The Line State block (R166). -/
structure Line where
  state : LineState
  emergencyMark : Bool
  deriving DecidableEq, Repr

inductive RxState where
  | hunt | receiving | skipping | replying
  deriving DecidableEq, Repr

/-- A reply that is due or under transmission: its Kind, Tag and body (R187). -/
structure Reply where
  kind : Byte
  tag : Byte
  body : List Byte
  deriving DecidableEq, Repr

/-- A character on the line as the part sends it: its mark bit, set in an address character, and its data bits
(R178). -/
structure LineChar where
  mark : Bool
  data : Byte
  deriving DecidableEq, Repr

/-- The Link Port (R177, R183). `tx` holds the characters on the line while the part transmits and is
empty while the line is released (R185). -/
structure Link where
  address : BitVec 5
  /-- RATE: 115,200 bit/s, else 57,600 bit/s. -/
  fast : Bool
  rx : RxState
  broadcast : Bool
  buffer : List Byte
  checkHigh : Option Byte
  expected : Option Nat
  /-- Whether the gap deadline is present (R182). -/
  gap : Bool
  good : Nat
  notMine : Nat
  framingErrors : Nat
  gapErrors : Nat
  checkErrors : Nat
  reply : Option Reply
  tx : List LineChar
  deriving DecidableEq, Repr

/-! ### Input pins -/

/-- The levels of the input pins (00_scope, 'Signals'); BEAM true is broken. -/
structure Pins where
  clamp : Vector Bool 4
  analyser : Vector (BitVec 2) 4
  gateClosed : Bool
  beam : Bool
  shredderRunning : Bool
  emergencyStop : Bool
  analog : Vector Raw 16
  deriving DecidableEq, Repr

end Sys2Proof.Machine
end

