-- ==== Sys2Proof/Machine/Flags.lean ====
section
/-! DEFINITION. The flag set of an appliance record (R5): every flag computation of the manual sets one
of these flags, and none clears one. -/

namespace Sys2Proof.Machine

/-- Whether a flag is in the set. -/
def Flags.has (fl : Flags) : Flag → Bool
  | .classMismatch => fl.classMismatch
  | .classUndetermined => fl.classUndetermined
  | .evacTimeout => fl.evacTimeout
  | .outgassing => fl.outgassing
  | .unsettledFinal => fl.unsettledFinal
  | .negativeClamped => fl.negativeClamped
  | .massSaturated => fl.massSaturated
  | .ratioSaturated => fl.ratioSaturated
  | .drainGap => fl.drainGap
  | .sensorGap => fl.sensorGap
  | .breakthrough => fl.breakthrough
  | .tripDuringWindow => fl.tripDuringWindow
  | .feedClearedByHost => fl.feedClearedByHost
  | .flammable => fl.flammable

/-- The set with a flag set where the condition holds; a flag already present stays (R5). -/
def Flags.setIf (c : Bool) (f : Flag) (fl : Flags) : Flags :=
  match f with
  | .classMismatch => { fl with classMismatch := fl.classMismatch || c }
  | .classUndetermined => { fl with classUndetermined := fl.classUndetermined || c }
  | .evacTimeout => { fl with evacTimeout := fl.evacTimeout || c }
  | .outgassing => { fl with outgassing := fl.outgassing || c }
  | .unsettledFinal => { fl with unsettledFinal := fl.unsettledFinal || c }
  | .negativeClamped => { fl with negativeClamped := fl.negativeClamped || c }
  | .massSaturated => { fl with massSaturated := fl.massSaturated || c }
  | .ratioSaturated => { fl with ratioSaturated := fl.ratioSaturated || c }
  | .drainGap => { fl with drainGap := fl.drainGap || c }
  | .sensorGap => { fl with sensorGap := fl.sensorGap || c }
  | .breakthrough => { fl with breakthrough := fl.breakthrough || c }
  | .tripDuringWindow => { fl with tripDuringWindow := fl.tripDuringWindow || c }
  | .feedClearedByHost => { fl with feedClearedByHost := fl.feedClearedByHost || c }
  | .flammable => { fl with flammable := fl.flammable || c }

/-- The flags in the bit order of the flags field (R191). -/
def flagOrder : List Flag :=
  [.classMismatch, .classUndetermined, .evacTimeout, .outgassing, .unsettledFinal, .negativeClamped, .massSaturated,
   .ratioSaturated, .drainGap, .sensorGap, .breakthrough, .tripDuringWindow, .feedClearedByHost, .flammable]

/-- The record with a flag set where the condition holds. -/
def Record.flagIf (c : Bool) (f : Flag) (r : Record) : Record := { r with flags := r.flags.setIf c f }

/-- The record with a flag set. -/
def Record.flag (f : Flag) (r : Record) : Record := r.flagIf true f

/-- Whether the record holds FLAMMABLE (R6). -/
def Record.flammable (r : Record) : Bool := r.flags.flammable

end Sys2Proof.Machine
end

