-- ==== Sys2Proof/Machine/Defaults.lean ====
section
/-! DEFINITION. The tables of configured quantities: the 44 configuration items (R189), the channel
defaults (R121), the source defaults (R152), and every block's values after device reset. -/

namespace Sys2Proof.Machine

/-- A row of the table of R189: default and range in the unit a request carries, and the number of held
units to one of these (1000 for durations in s, which are held in ms). -/
structure ItemRow where
  dflt : Nat
  lo : Nat
  hi : Nat
  scale : Nat := 1
  deriving DecidableEq, Repr

/-- Items 1 to 20 of R189: stations, masses, Feeder. -/
def itemRowsA : List ItemRow :=
  [⟨120, 10, 600, 1000⟩, ⟨20, 5, 120, 1000⟩, ⟨2, 1, 10, 1000⟩, ⟨5, 1, 60, 1000⟩, ⟨400, 50, 900, 1⟩,
   ⟨10, 1, 120, 1000⟩, ⟨600, 60, 3600, 1000⟩, ⟨30, 5, 300, 1000⟩, ⟨100, 10, 1000, 1⟩, ⟨60, 0, 600, 1000⟩,
   ⟨450000, 1000, 500000, 1⟩, ⟨450000, 1000, 500000, 1⟩, ⟨450000, 1000, 500000, 1⟩, ⟨450000, 1000, 500000, 1⟩,
   ⟨20, 0, 1000, 1⟩, ⟨900, 500, 1000, 1⟩, ⟨10, 2, 60, 1000⟩, ⟨60, 10, 600, 1000⟩, ⟨10, 2, 60, 1000⟩,
   ⟨1800000, 100000, 2000000, 1⟩]

/-- Items 21 to 44 of R189: atmosphere, timing, attribution. The range of the flow divider is nominal:
any value other than 1, 4 or 16 is refused (R149). -/
def itemRowsB : List ItemRow :=
  [⟨400, 100, 1500, 1⟩, ⟨600, 100, 2000, 1⟩, ⟨800, 200, 2500, 1⟩, ⟨200, 10, 900, 1⟩, ⟨400, 20, 1000, 1⟩,
   ⟨30, 5, 300, 1000⟩, ⟨300, 0, 2000, 1⟩, ⟨100, 0, 1000, 1⟩, ⟨10, 2, 120, 1000⟩, ⟨20, 0, 1000, 1⟩,
   ⟨250, 100, 1000, 1⟩, ⟨40, 1, 240, 1⟩, ⟨1000, 200, 5000, 1⟩, ⟨4, 1, 16, 1⟩, ⟨100, 1, 10000, 1⟩,
   ⟨18, 1, 255, 1⟩, ⟨700, 0, 1000, 1⟩, ⟨50, 1, 5000, 1⟩,
   ⟨1500, 1, 65535, 1⟩, ⟨2500, 1, 65535, 1⟩, ⟨3500, 1, 65535, 1⟩, ⟨4500, 1, 65535, 1⟩, ⟨6000, 1, 65535, 1⟩,
   ⟨8000, 1, 65535, 1⟩]

/-- The row of an item (R189). -/
def itemRow (i : Item) : ItemRow := (itemRowsA ++ itemRowsB).getD i.val ⟨0, 0, 0, 1⟩

/-! The items by their symbols (R189: item number i is index i - 1). -/

def iTClamp : Item := 0
def iTSettle : Item := 1
def iTPierce : Item := 2
def iTProbe : Item := 3
def iPTarget : Item := 4
def iTDwell : Item := 5
def iTEvac : Item := 6
def iTRise : Item := 7
def iPRise : Item := 8
def iTDrain : Item := 9
/-- Fill limit of station `n + 1`. -/
def iFill (n : StationNo) : Item := ⟨10 + n.val, by omega⟩
def iMEmpty : Item := 14
def iRhoMin : Item := 15
def iTOpen : Item := 16
def iTPass : Item := 17
def iTClose : Item := 18
def iVHigh : Item := 19
def iO2Set : Item := 20
def iLInert : Item := 21
def iLTrip : Item := 22
def iLFeed : Item := 23
def iLTripLFL : Item := 24
def iTHold : Item := 25
def iKp : Item := 26
def iBase : Item := 27
def iTNf : Item := 28
def iFMin : Item := 29
def iPa : Item := 30
def iK : Item := 31
def iTPwm : Item := 32
def iDivider : Item := 33
def iQPulse : Item := 34
def iNSettle : Item := 35
def iGammaMin : Item := 36
def iLBreak : Item := 37
/-- The Foam Table entry of foam class F(k + 1). -/
def iFoam (k : Fin 6) : Item := ⟨38 + k.val, by omega⟩

/-- The default span of a channel (R121). -/
def channelSpan (i : ChannelNo) : Int :=
  if i.val < 8 then (if i.val % 2 = 0 then 500000 else 10000)
  else if i.val = 8 then 2500
  else if i.val = 9 then 1000
  else if i.val = 10 then 2000000
  else if i.val = 11 then 5000
  else 50000

/-- The default settle band of a channel (R121). -/
def channelBand (i : ChannelNo) : Nat :=
  if i.val < 8 then (if i.val % 2 = 0 then 20 else 0)
  else if i.val = 10 then 200
  else if i.val ≥ 12 then 10
  else 0

/-- A channel record at device reset (R120, R121). -/
def channelReset (i : ChannelNo) : Channel :=
  { zero := 0, span := channelSpan i, low := 0, high := channelSpan i, band := channelBand i,
    status := .noData, raw := none, value := 0, ring := [] }

/-- The default level of a source (R152). -/
def sourceLevel (i : SourceNo) : Option (Fin 4) :=
  if i.val ≤ 1 then some 3
  else if i.val ≤ 10 then some 2
  else if i.val ≤ 12 then some 1
  else if i.val ≤ 18 then some 0
  else if i.val = 19 then some 1
  else none

/-- Whether a source is a LEVEL source (R152). -/
def sourceIsLevel (i : SourceNo) : Bool :=
  i.val = 7 || i.val = 8 || i.val = 9 || i.val = 10 || i.val = 11 || i.val = 18

/-- A source at device reset (R153). -/
def sourceReset (i : SourceNo) : Source :=
  { level := sourceLevel i, pending := none, cond := false, lastSubject := none, lastValue := none, posted := false }

/-- A receiver record after device reset and RECEIVER CHANGED (R51). -/
def receiverReset : Receiver := { assigned := none, credited := 0, count := 0, contaminated := false }

/-- A station at device reset (R25, R145). The copied limits have no stated reset value: 0 (log 20). -/
def stationReset : Station :=
  { state := .idle, bound := none, pierced := false, probeTaken := false, attemptClass := none,
    tareReceiver := none, tareOil := none, finalReceiver := none, finalOil := none, rises := 0,
    dwellStart := none, riseRef := none, endCause := none, faultCause := none, receiver := receiverReset,
    deadline := none, probeDeadline := none, copyTarget := 0, copyDwell := 0, copyFill := 0, copyRise := 0 }

/-- The Appliance Table after device reset and after CLEAR LINE (R1, R24, R112). -/
def tableReset : Table :=
  { slots := Vector.replicate 48 none, seqCtr := 0, relCtr := 0, shredQueue := [], feeding := none,
    openSet := [], closedList := [], saved := none }

/-- The Atmosphere Controller at device reset (R83). That the copied T_nf, which R83's table does not list, is absent is
the model's choice (log 35). -/
def atmReset : Atmosphere :=
  { state := .air, demand := false, hostHold := false, latest := none, holdStart := none, holdLength := none,
    marginLost := false, tripCauses := none, duty := 0, highDutyStart := none, highDutyLength := none, noFlow := false }

/-- The Condition Arbiter at device reset (R164). -/
def arbReset : Arbiter :=
  { sources := Vector.ofFn sourceReset, mask := 0, attention := 1, queue := [], saved := none }

/-- The Link Port at device reset, with its sampled address and rate (R177, R183). That the characters expected and
the first check character are absent is the model's choice (log 34). -/
def linkReset (address : BitVec 5) (fast : Bool) : Link :=
  { address, fast, rx := .hunt, broadcast := false, buffer := [], checkHigh := none, expected := none, gap := false,
    good := 0, notMine := 0, framingErrors := 0, gapErrors := 0, checkErrors := 0, reply := none, tx := [] }

/-- The input pins as the model presumes them at reset: all false, clear, 00 and 0 (log 8). -/
def pinsReset : Pins :=
  { clamp := Vector.replicate 4 false, analyser := Vector.replicate 4 0, gateClosed := false, beam := false,
    shredderRunning := false, emergencyStop := false, analog := Vector.replicate 16 0 }

/-- The Feeder at device reset (R70, R145). -/
def feederReset : Feeder := { state := .idle, jam := none, lastFeed := none, copied := none, deadline := none }

/-- The Foam Attribution Unit at device reset (R92). -/
def foamReset : Foam :=
  { baseline := none, debt := 0, drain := .noDrain, drainStart := none, breakthrough := false, tickDue := none }

/-- The converters at device reset: A0 is converted first and completes after 2 ms (R122); no pass. -/
def scanReset : Scan := { next := 0, due := 2, pass := none }

/-- The period timer and postscaler at device reset, Pa being at its default of 250 ms (R139, R141). -/
def periodReset : Period := { nextDeadline := 250, lastExpiry := none, postscaler := 0 }

/-- The FLOW channel at device reset (R147). -/
def flowReset : Flow := { edges := 0, latest := none, previous := none, unused := false, overwrites := 0 }

/-- The purge PWM at device reset (R150). -/
def pwmReset : Pwm := { start := 0, length := 1000, active := 0, buffer := 0, purge := false }

/-- The Line State block at device reset (R166). -/
def lineReset : Line := { state := .initial, emergencyMark := false }

/-- The twenty totals at device reset and after CLEAR TOTALS (R113, R119). -/
def totalsReset : Vector Total 20 := Vector.replicate 20 { value := 0, saturated := false }

/-- Every configuration item at its default, as held (R189). -/
def settingsReset : Vector Nat 44 := Vector.ofFn fun i => (itemRow i).dflt * (itemRow i).scale

end Sys2Proof.Machine
end

