-- ==== Sys2Proof/Machine/State.lean ====
section
/-! DEFINITION. The state of the HX-24: every block's state as plain data, the input pins, and the queue
of waiting commands; the reasons a step can stop; and the state after device reset. -/

namespace Sys2Proof.Machine

/-- The whole part. `pending` and `free` are the model's own: the commands that are waiting, first in,
first out, and the counter the free values of Config are applied to (log 21). -/
structure State where
  table : Table
  stations : Vector Station 4
  feeder : Feeder
  atm : Atmosphere
  foam : Foam
  totals : Vector Total 20
  totalsStart : Time
  channels : Vector Channel 16
  scan : Scan
  clock : Time
  period : Period
  flow : Flow
  pwm : Pwm
  arb : Arbiter
  line : Line
  link : Link
  /-- The configuration items as held: durations in ms (R189). -/
  settings : Vector Nat 44
  /-- Four stations are fitted, else two (R177). -/
  fitted4 : Bool
  pins : Pins
  free : Nat
  pending : List Instr
  deriving DecidableEq, Repr

/-- The faults that stop the machine: none, since no rule of the manual stops the part. A closed type
without constructors is safe: nothing can raise one. -/
inductive Fault where
  deriving DecidableEq, Repr

/-- The refusals of the model. -/
inductive Refusal where
  | /-- raised by `exec` for a command that has no meaning yet; safe, since the run stops. No command
    answers it. -/
    notModelled (mnemonic : String)
  deriving DecidableEq, Repr

/-- Every block at its stated reset value, for sampled straps. -/
def State.fresh (address : BitVec 5) (fast fitted4 : Bool) : State :=
  { table := tableReset, stations := Vector.replicate 4 stationReset, feeder := feederReset, atm := atmReset,
    foam := foamReset, totals := totalsReset, totalsStart := 0, channels := Vector.ofFn channelReset,
    scan := scanReset, clock := 0, period := periodReset, flow := flowReset, pwm := pwmReset, arb := arbReset,
    line := lineReset, link := linkReset address fast, settings := settingsReset, fitted4 := fitted4,
    pins := pinsReset, free := 0, pending := [] }

/-- The machine right after reset. The straps and pins are the environment's: address 1, 57,600 bit/s,
two stations (log 9), inputs low (log 8). -/
def State.reset : State := State.fresh 1 false false

end Sys2Proof.Machine
end

