-- ==== Sys2Proof/Machine/Operands.lean ====
section
/-! DEFINITION. The fields of requests: which codes are legal and what they stand for (R184 step 3, R192),
and signed numbers (R188). -/

namespace Sys2Proof.Machine

/-- A declared class by its code: 1 CHLORO, 2 FLUORO, 3 HYDRO, 4 UNKNOWN (R7, R192). -/
def declaredOf (c : Byte) : Option Declared :=
  match c.toNat with
  | 1 => some (some .chloro)
  | 2 => some (some .fluoro)
  | 3 => some (some .hydro)
  | 4 => some none
  | _ => none

/-- A foam agent by its code (R192). -/
def foamAgentOf (c : Byte) : Option FoamAgent :=
  match c.toNat with
  | 0 => some .noAgent
  | 1 => some .chloro
  | 3 => some .hydro
  | 4 => some .unknown
  | _ => none

/-- A foam class by its code, 0 to 6 (R192). -/
def foamClassOf (c : Byte) : Option (Fin 7) := if h : c.toNat < 7 then some ⟨c.toNat, h⟩ else none

/-- A station by its number, 1 to 4 (R25). -/
def stationOf (c : Byte) : Option StationNo :=
  if h : 1 ≤ c.toNat ∧ c.toNat ≤ 4 then some ⟨c.toNat - 1, by omega⟩ else none

/-- A channel by its number, 0 to 15 (R132, R134). -/
def channelOf (c : Byte) : Option ChannelNo := if h : c.toNat < 16 then some ⟨c.toNat, h⟩ else none

/-- A configuration item by its number, 1 to 44 (R189). -/
def itemOf (c : Byte) : Option Item :=
  if h : 1 ≤ c.toNat ∧ c.toNat ≤ 44 then some ⟨c.toNat - 1, by omega⟩ else none

/-- A source whose level SET SOURCE may set: 2 to 20 (R156). -/
def sourceOf (c : Byte) : Option SourceNo :=
  if h : 2 ≤ c.toNat ∧ c.toNat ≤ 20 then some ⟨c.toNat, by omega⟩ else none

/-- The level a SET SOURCE takes: 255 DISABLED, 0 to 2 as given, 3 to 254 as 2 (R156). -/
def levelOf (c : Byte) : Option (Fin 4) :=
  if c.toNat = 255 then none else if c.toNat = 0 then some 0 else if c.toNat = 1 then some 1 else some 2

/-- A mask or attention level, above 3 taken as 3 (R157). -/
def maskOf (c : Byte) : Fin 4 := if h : c.toNat < 4 then ⟨c.toNat, h⟩ else 3

/-- A slot by its number, 0 to 47, in the four-character field of QUERY APPLIANCE. The manual gives a slot one
character and the field four (R22, R184, R188); that all four are one number, high first, is the model's choice
(log 30). -/
def slotOf (w : Word) : Option Slot := if h : w.toNat < 48 then some ⟨w.toNat, h⟩ else none

/-- The gas an ANALYSER pair reports: 00 none, 01 CHLORO, 10 FLUORO, 11 HYDRO (R26). -/
def gasOfPair (p : BitVec 2) : Option Gas :=
  if p = 0 then none else if p = 1 then some .chloro else if p = 2 then some .fluoro else some .hydro

end Sys2Proof.Machine
end

