-- ==== Sys2Proof/Machine/Ops.lean ====
section
/-! DEFINITION. The named operations over State: time, configuration items, records and stations. -/

namespace Sys2Proof.Machine

/-! ### Time (R137, R138) -/

/-- The elapsed time from a start reading to the present reading, modulo 2^32 (R138). -/
def elapsed (start now : Time) : Nat := (now - start).toNat

/-- The reading `ms` milliseconds after `t` (R143). -/
def after (t : Time) (ms : Nat) : Time := t + BitVec.ofNat 32 ms

/-- Whether a running deadline is reached: it is present and equals the line clock (R143). -/
def State.due (s : State) (d : Option Time) : Bool := d == some s.clock

/-! ### Arithmetic (00_scope, 'Arithmetic') -/

/-- A value clamped into an interval. -/
def clampNat (lo hi x : Nat) : Nat := if x < lo then lo else if hi < x then hi else x

/-- A value clamped into an interval. -/
def clampInt (lo hi x : Int) : Int := if x < lo then lo else if hi < x then hi else x

/-- A saturating count (R61, R147, R183). -/
def satAdd (max x n : Nat) : Nat := if x + n ≤ max then x + n else max

/-! ### Configuration -/

/-- A configuration item as held: durations in ms (R189). -/
def State.item (s : State) (i : Item) : Nat := s.settings[i]

/-- The number of fitted stations, 2 or 4 (R177). -/
def State.fittedCount (s : State) : Nat := if s.fitted4 then 4 else 2

/-- Whether a station is fitted (R25). -/
def State.fitted (s : State) (n : StationNo) : Bool := decide (n.val < s.fittedCount)

/-! ### Records -/

/-- The record a slot holds. -/
def State.record (s : State) (i : Slot) : Option Record := s.table.slots[i]

/-- The slots in ascending order. -/
def allSlots : List Slot := List.finRange 48

/-- The table with a slot's content replaced. -/
def Table.put (t : Table) (i : Slot) (r : Option Record) : Table := { t with slots := t.slots.set i r }

/-- The table with a slot's record changed; an empty slot stays empty. -/
def Table.mod (t : Table) (i : Slot) (f : Record → Record) : Table := t.put i (t.slots[i].map f)

/-- The state with a slot's record changed; an empty slot stays empty. -/
def State.modRecord (s : State) (i : Slot) (f : Record → Record) : State := { s with table := s.table.mod i f }

/-- The state with the records of several slots changed. -/
def State.modRecords (s : State) (is : List Slot) (f : Record → Record) : State :=
  is.foldl (fun t i => t.modRecord i f) s

/-- The slot of the present record that carries an Ident (R2). -/
def State.findIdent (s : State) (id : Word) : Option Slot :=
  allSlots.find? fun i => (s.record i).any fun r => r.ident == id

/-- The lowest-numbered empty slot (R8). -/
def State.lowestEmpty (s : State) : Option Slot := allSlots.find? fun i => (s.record i).isNone

/-- The record count, 0 to 48 (R1). -/
def State.recordCount (s : State) : Nat := (allSlots.filter fun i => (s.record i).isSome).length

/-- Whether the record of a slot holds FLAMMABLE. -/
def State.flammableAt (s : State) (i : Slot) : Bool := (s.record i).any Record.flammable

/-- A record in FEEDING or a member of the open-window set holds FLAMMABLE (R17, R86). -/
def State.flammableInside (s : State) : Bool :=
  s.table.feeding.any s.flammableAt || s.table.openSet.any s.flammableAt

/-- The head of the shred queue holds FLAMMABLE (R13). -/
def State.flammableHead (s : State) : Bool := s.table.shredQueue.head?.any s.flammableAt

/-! ### Stations and channels -/

/-- A station. -/
def State.station (s : State) (n : StationNo) : Station := s.stations[n]

/-- The state with a station changed. -/
def State.modStation (s : State) (n : StationNo) (f : Station → Station) : State :=
  { s with stations := s.stations.set n (f s.stations[n]) }

/-- A channel record. -/
def State.channel (s : State) (c : ChannelNo) : Channel := s.channels[c]

/-- The receiver scale of a station, A(2n-2) (R27). -/
def scaleChannel (n : StationNo) : ChannelNo := ⟨2 * n.val, by omega⟩

/-- The suction pressure of a station, A(2n-1) (R27). -/
def suctionChannel (n : StationNo) : ChannelNo := ⟨2 * n.val + 1, by omega⟩

/-- The oil-cup scale of a station, B(3+n) (R27). -/
def cupChannel (n : StationNo) : ChannelNo := ⟨12 + n.val, by omega⟩

/-- Whether the part transmits or owes a reply, and so receives nothing (R185). -/
def State.replying (s : State) : Bool := s.link.rx == .replying

end Sys2Proof.Machine
end

