-- ==== Sys2Proof/Machine/Outputs.lean ====
section
/-! DEFINITION. The output pins as functions of the state that alone decides them (R26, R70, R80, R92,
R163); PURGE is held in the PWM (R150). -/

namespace Sys2Proof.Machine

/-- PIERCE n: on in PIERCING alone (R26). -/
def State.pierceOut (s : State) (n : StationNo) : Bool := (s.station n).state == .piercing

/-- SUCTION n: on in EVACUATING alone (R26). -/
def State.suctionOut (s : State) (n : StationNo) : Bool := (s.station n).state == .evacuating

/-- OIL DRAIN n: on in DRAINING_OIL alone (R26). -/
def State.oilDrainOut (s : State) (n : StationNo) : Bool := (s.station n).state == .drainingOil

/-- FEED GATE: energized at entry to OPENING, de-energized at every exit from OPENING and PASSING (R70). -/
def State.feedGateOut (s : State) : Bool := s.feeder.state == .opening || s.feeder.state == .passing

/-- SHREDDER PERMIT (R80). -/
def State.shredderPermitOut (s : State) : Bool :=
  (s.line.state == .run || s.line.state == .hold) && s.atm.state != .tripped && s.feeder.state != .jammed

/-- VESSEL DRAIN: energized while the drain state is ACTIVE (R92). -/
def State.vesselDrainOut (s : State) : Bool := s.foam.drain == .active

/-- The FEED capture channel is armed while the Feeder is in PASSING (R146). -/
def State.feedArmed (s : State) : Bool := s.feeder.state == .passing

end Sys2Proof.Machine
end

