-- ==== Sys2Proof/Machine/Encode.lean ====
section
/-! DEFINITION. The characters of replies: the codes of R192, the encoding of R188, and the record, closing
record and notice layouts of R191 and R192. -/

namespace Sys2Proof.Machine

/-! ### Codes (R187, R192) -/

/-- A reply status (R187). -/
inductive Status where
  | done | accepted | badKind | badLength | badField | lineState | wrongPhase | busy | emergencyActive
  | tripConditions | gateOpen | tableFull | duplicateIdent | noSuchAppliance | stationBusy | stationNotFitted
  | attemptsSpent | receiverFull | classConflict
  deriving DecidableEq, Repr

/-- The code of a status (R187). -/
def Status.code : Status → Byte
  | .done => 0
  | .accepted => 1
  | .badKind => 16
  | .badLength => 17
  | .badField => 18
  | .lineState => 32
  | .wrongPhase => 33
  | .busy => 34
  | .emergencyActive => 35
  | .tripConditions => 36
  | .gateOpen => 37
  | .tableFull => 48
  | .duplicateIdent => 49
  | .noSuchAppliance => 50
  | .stationBusy => 64
  | .stationNotFitted => 65
  | .attemptsSpent => 66
  | .receiverFull => 67
  | .classConflict => 68

def Gas.code : Gas → Nat
  | .chloro => 1
  | .fluoro => 2
  | .hydro => 3

def declaredCode (d : Declared) : Nat := (d.map Gas.code).getD 4

/-- An optional gas: 0 is NONE or absent (R188, R192). -/
def gasCode (g : Option Gas) : Nat := (g.map Gas.code).getD 0

def FoamAgent.code : FoamAgent → Nat
  | .noAgent => 0
  | .chloro => 1
  | .hydro => 3
  | .unknown => 4

def Phase.code : Phase → Nat
  | .queued => 1
  | .extracting => 2
  | .extracted => 3
  | .shredWait => 4
  | .feeding => 5
  | .shredding => 6
  | .closed => 7

def Verdict.code : Verdict → Nat
  | .complete => 1
  | .short => 2
  | .empty => 3
  | .unrated => 4
  | .waived => 5
  | .conflict => 6

def FoamVerdict.code : FoamVerdict → Nat
  | .adequate => 1
  | .low => 2
  | .noFoam => 3
  | .notShredded => 4

def LineState.code : LineState → Nat
  | .initial => 1
  | .run => 2
  | .hold => 3
  | .stop => 4

def AtmState.code : AtmState → Nat
  | .air => 1
  | .inerting => 2
  | .inert => 3
  | .tripped => 4
  | .recovering => 5

def FeederState.code : FeederState → Nat
  | .idle => 1
  | .waitPermit => 2
  | .opening => 3
  | .passing => 4
  | .closing => 5
  | .jammed => 6

def StationState.code : StationState → Nat
  | .idle => 1
  | .clamping => 2
  | .taring => 3
  | .piercing => 4
  | .evacuating => 5
  | .riseTest => 6
  | .drainingOil => 7
  | .weighing => 8
  | .awaitUnclamp => 9
  | .abortWeighing => 10
  | .faulted => 11

def JamCause.code : JamCause → Nat
  | .feedJam => 1
  | .gateStuck => 2
  | .trip => 3
  | .stop => 4

def FaultCause.code : FaultCause → Nat
  | .clampTimeout => 1
  | .scaleUnsettled => 2
  | .receiverFull => 3
  | .clampOpened => 4

def EndCause.code : EndCause → Nat
  | .abort => 1
  | .stop => 2
  | .clampOpened => 3
  | .conflict => 4
  | .undetermined => 5
  | .receiverFull => 6

def ChannelStatus.code : ChannelStatus → Nat
  | .noData => 1
  | .ok => 2
  | .faultLow => 3
  | .faultHigh => 4

def DrainState.code : DrainState → Nat
  | .noDrain => 1
  | .active => 2
  | .ended => 3

def Margin.code : Margin → Nat
  | .o2 => 1
  | .lfl => 2
  | .both => 3

def Side.code : Side → Nat
  | .low => 1
  | .high => 2

def LinkError.code : LinkError → Nat
  | .framing => 1
  | .gap => 2
  | .check => 3
  | .short => 4

/-- The bit set of trip causes: bit 0 LFL_HIGH, bit 1 O2_HIGH, bit 2 SENSOR (R192). -/
def TripCauses.code (c : TripCauses) : Nat :=
  (if c.lflHigh then 1 else 0) + (if c.o2High then 2 else 0) + (if c.sensor then 4 else 0)

/-- The level of a source on the line, 255 for DISABLED (R156, R189). -/
def levelCode (l : Option (Fin 4)) : Nat := (l.map Fin.val).getD 255

/-! ### Fields (R188) -/

/-- One character. -/
def char1 (x : Nat) : List Byte := [BitVec.ofNat 8 x]

/-- A mark: 1 yes, 0 no. -/
def markByte (b : Bool) : List Byte := [if b then 1 else 0]

/-- Two characters, high first. -/
def num2 (x : Nat) : List Byte := [BitVec.ofNat 8 (x / 256), BitVec.ofNat 8 x]

/-- The four characters of a word, high first. -/
def word4 (w : Word) : List Byte :=
  [w.extractLsb' 24 8, w.extractLsb' 16 8, w.extractLsb' 8 8, w.extractLsb' 0 8]

/-- A number of four characters. -/
def num4 (x : Nat) : List Byte := word4 (BitVec.ofNat 32 x)

/-- A number of four characters, two's complement. -/
def int4 (x : Int) : List Byte := word4 (BitVec.ofInt 32 x)

/-- An optional number: a presence character, then four characters. -/
def optWord (w : Option Word) : List Byte := markByte w.isSome ++ word4 (w.getD 0)

/-- An optional signed number. -/
def optInt (x : Option Int) : List Byte := markByte x.isSome ++ int4 (x.getD 0)

/-- An optional field of one character that is no enumeration. -/
def opt1 (x : Option Nat) : List Byte := markByte x.isSome ++ char1 (x.getD 0)

/-- Eight marks in one character, the first in the most significant bit (R188, LIST TABLE). -/
def bits8 (bs : List Bool) : Byte := BitVec.ofNat 8 (bs.foldl (fun acc b => 2 * acc + (if b then 1 else 0)) 0)

/-- Marks as a bit field whose first mark is bit 0 (R191). -/
def bitField (bs : List Bool) : Nat := bs.foldr (fun b acc => 2 * acc + (if b then 1 else 0)) 0

/-- The value of a notice as a four-character number (R192). -/
def Value.word : Value → Word
  | .trip c => BitVec.ofNat 32 c.code
  | .line l => BitVec.ofNat 32 l.code
  | .fault c => BitVec.ofNat 32 c.code
  | .jam c => BitVec.ofNat 32 c.code
  | .margin m => BitVec.ofNat 32 m.code
  | .side x => BitVec.ofNat 32 x.code
  | .gas g => BitVec.ofNat 32 g.code
  | .verdict v => BitVec.ofNat 32 v.code
  | .link e => BitVec.ofNat 32 e.code
  | .ident i => i
  | .number x => BitVec.ofInt 32 x

/-! ### Layouts (R191, R192) -/

/-- The flags field, bit 0 first (R191). -/
def Flags.field (fl : Flags) : Nat := bitField (flagOrder.map fl.has)

/-- The presence field, bit 0 first (R191). -/
def Record.presence (r : Record) : Nat :=
  bitField [r.bound.isSome, r.measured.isSome, r.rho.isSome, r.verdict.isSome, r.releaseOrder.isSome,
    r.feedTime.isSome, r.ticks.isSome, r.gamma.isSome, r.foamVerdict.isSome, r.closeTime.isSome]

/-- The number of the k-th station used, 0 where absent (R191). -/
def Record.usedNumber (r : Record) (k : Nat) : Nat := ((r.used[k]?).map fun n => n.val + 1).getD 0

/-- The closing record: offsets 0 to 49 of the appliance record (R191). -/
def Record.closingChars (r : Record) : List Byte :=
  char1 r.slot.val ++ word4 r.ident ++ word4 r.seq ++ char1 (declaredCode r.declared) ++ num2 r.charge
    ++ char1 r.foamClass.val ++ char1 r.foamAgent.code ++ num2 r.expected ++ char1 r.attempts
    ++ char1 (r.usedNumber 0) ++ char1 (r.usedNumber 1) ++ char1 (gasCode r.measured) ++ num2 r.mr ++ num2 r.mo
    ++ num2 (r.rho.getD 0) ++ char1 ((r.verdict.map Verdict.code).getD 0) ++ word4 (r.releaseOrder.getD 0)
    ++ word4 (r.feedTime.getD 0) ++ num4 r.foam ++ num2 (r.gamma.getD 0)
    ++ char1 ((r.foamVerdict.map FoamVerdict.code).getD 0) ++ word4 (r.closeTime.getD 0)
    ++ num2 r.flags.field ++ num2 r.presence

/-- The appliance record, 53 characters (R191). -/
def Record.chars (r : Record) : List Byte :=
  r.closingChars ++ char1 r.phase.code ++ char1 ((r.bound.map fun n => n.val + 1).getD 0) ++ char1 (r.ticks.getD 0)

/-- A notice, 13 characters (R192). -/
def Notice.chars (n : Notice) : List Byte :=
  char1 n.source.val ++ char1 n.level.val ++ word4 n.time
    ++ char1 (bitField [n.subject.isSome, n.value.isSome]) ++ char1 (n.subject.getD 0)
    ++ word4 ((n.value.map Value.word).getD 0) ++ char1 n.repeats

/-- A ring: its count, then eight values, oldest first, 0 beyond the count (R188; the count as one
character, log 15). -/
def ringChars (ring : List Int) : List Byte :=
  char1 ring.length ++ (List.range 8).flatMap fun k => int4 (ring.getD k 0)

/-! ### Answers and replies (R187) -/

/-- An owner's answer to a request: status, the CLAMPED flag and the reply content. -/
structure Answer where
  status : Status
  clamped : Bool
  content : List Byte
  deriving DecidableEq, Repr

/-- A refusal or an answer without content. -/
def bare (st : Status) : Answer := { status := st, clamped := false, content := [] }

/-- DONE with content. -/
def doneWith (content : List Byte) : Answer := { status := .done, clamped := false, content }

/-- DONE with content, CLAMPED where the condition holds. -/
def doneClamped (c : Bool) (content : List Byte) : Answer := { status := .done, clamped := c, content }

/-- The body of a reply: status, flags, content (R187). -/
def Answer.body (a : Answer) : List Byte := a.status.code :: (if a.clamped then 1 else 0) :: a.content

/-! ### The check (R181) -/

/-- One bit of the check register, x^16 + x^12 + x^5 + 1, most significant bit first. -/
def crcBit (r : BitVec 16) : BitVec 16 := if r.msb then (r <<< 1) ^^^ 0x1021#16 else r <<< 1

/-- The register after one character. -/
def crcChar (r : BitVec 16) (c : Byte) : BitVec 16 :=
  crcBit (crcBit (crcBit (crcBit (crcBit (crcBit (crcBit (crcBit (r ^^^ (c.zeroExtend 16 <<< 8)))))))))

/-- The check over the characters of a frame from Length to the last body character (R181). -/
def crc (cs : List Byte) : BitVec 16 := cs.foldl crcChar 0xFFFF#16

/-- The characters of a frame after its address: Length, Kind, Tag, body, check high and low (R191). -/
def frameChars (kind tag : Byte) (body : List Byte) : List Byte :=
  let covered := BitVec.ofNat 8 body.length :: kind :: tag :: body
  covered ++ [(crc covered).extractLsb' 8 8, (crc covered).extractLsb' 0 8]

/-- The characters of a reply: address 0 with its mark bit set, then the frame, every character of it with the mark
bit clear (R178, R187, R191). -/
def Reply.chars (r : Reply) : List LineChar :=
  ⟨true, 0⟩ :: (frameChars r.kind r.tag r.body).map fun c => ⟨false, c⟩

end Sys2Proof.Machine
end

