-- ==== Sys2Proof/Machine/Arbiter.lean ====
section
/-! DEFINITION. The Condition Arbiter (chapter 9): raises, condition reports, posting, and the requests
SET SOURCE, SET MASK and TAKE NOTICES. -/

namespace Sys2Proof.Machine

/-! ### The sources by name (R152) -/

def srcTrip : SourceNo := 0
def srcEmergency : SourceNo := 1
/-- STATION_FAULT_n at index 1 + n. -/
def srcStationFault (n : StationNo) : SourceNo := ⟨2 + n.val, by omega⟩
def srcFeedJam : SourceNo := 6
def srcMarginLost : SourceNo := 7
def srcNoFlow : SourceNo := 8
def srcBreakthrough : SourceNo := 9
def srcChannelFault : SourceNo := 10
def srcVesselHigh : SourceNo := 11
def srcClassMismatch : SourceNo := 12
/-- STATION_DONE_n at index 12 + n. -/
def srcStationDone (n : StationNo) : SourceNo := ⟨13 + n.val, by omega⟩
def srcClosed : SourceNo := 17
def srcNearlyFull : SourceNo := 18
def srcSaturated : SourceNo := 19
def srcLinkError : SourceNo := 20

/-- The sources in ascending order. -/
def allSources : List SourceNo := List.finRange 21

namespace Arbiter

/-- The arbiter with one source replaced. -/
def put (a : Arbiter) (i : SourceNo) (x : Source) : Arbiter := { a with sources := a.sources.set i x }

/-- The notices of level 0 to 2 in the queue (R158). -/
def lowCount (a : Arbiter) : Nat := (a.queue.filter fun n => decide (n.level.val < 3)).length

/-- Whether the queue has room for a notice of a level (R158). -/
def room (a : Arbiter) (l : Fin 4) : Bool :=
  decide (a.queue.length < Config.queueRoom) && (l == 3 || decide (a.lowCount < Config.lowRoom))

/-- The level at which a source may be posted now: it is pending, not DISABLED, not masked, and has
room (R159). -/
def eligibleLevel (a : Arbiter) (i : SourceNo) : Option (Fin 4) :=
  match a.sources[i].pending, a.sources[i].level with
  | some _, some l => if a.mask ≤ l && a.room l then some l else none
  | _, _ => none

/-- The eligible source of highest level, the lowest index among equals (R159). -/
def best (a : Arbiter) : Option SourceNo :=
  [(3 : Fin 4), 2, 1, 0].findSome? fun l => allSources.find? fun i => a.eligibleLevel i == some l

/-- The notice formed from a source's pending record (R160). -/
def noticeOf (i : SourceNo) (l : Fin 4) (p : Pending) : Notice :=
  { source := i, level := l, time := p.time, subject := p.subject, value := p.value, repeats := p.repeats }

/-- Posting one source: its notice joins the tail, it is no longer pending, and a LEVEL source is marked
posted (R159). -/
def postOne (a : Arbiter) (i : SourceNo) : Arbiter :=
  match a.sources[i].pending, a.sources[i].level with
  | some p, some l =>
    { a.put i { a.sources[i] with pending := none, posted := a.sources[i].posted || sourceIsLevel i } with
      queue := a.queue ++ [noticeOf i l p] }
  | _, _ => a

/-- Posting while a source is eligible; the fuel bounds the postings of one step. -/
def postFuel : Nat → Arbiter → Arbiter
  | 0, a => a
  | k + 1, a =>
    match a.best with
    | none => a
    | some i => postFuel k (a.postOne i)

/-- The posting at the end of a step (R159): each of the 21 sources has at most one pending occurrence. -/
def post (a : Arbiter) : Arbiter := postFuel 21 a

/-- A raise of an EDGE source (R154). -/
def raise (a : Arbiter) (now : Time) (i : SourceNo) (subject : Option Nat) (value : Option Value) : Arbiter :=
  match a.sources[i].level with
  | none => a
  | some _ =>
    let p := match a.sources[i].pending with
      | none => { time := now, subject, value, repeats := 0 }
      | some p => { p with repeats := satAdd 255 p.repeats 1 }
    (a.put i { a.sources[i] with pending := some p }).post

/-- The report that a LEVEL source's condition has become true (R155). -/
def reportTrue (a : Arbiter) (now : Time) (i : SourceNo) (subject : Option Nat) (value : Option Value) : Arbiter :=
  (a.put i
    { a.sources[i] with
      cond := true, lastSubject := subject, lastValue := value, posted := false
      pending := if a.sources[i].level.isSome then some { time := now, subject, value, repeats := 0 }
        else a.sources[i].pending }).post

/-- The report that a LEVEL source's condition has become false: a pending occurrence is cancelled (R155). -/
def reportFalse (a : Arbiter) (i : SourceNo) : Arbiter :=
  (a.put i { a.sources[i] with cond := false, posted := false, pending := none }).post

/-- A LEVEL source follows its owner's condition: a report is made where the condition has changed since
the last report (R155, log 26). -/
def report (a : Arbiter) (now : Time) (i : SourceNo) (cond : Bool) (subject : Option Nat) (value : Option Value) :
    Arbiter :=
  if cond && !a.sources[i].cond then a.reportTrue now i subject value
  else if !cond && a.sources[i].cond then a.reportFalse i
  else a

/-- The pending record of a source after its level changes (R156). -/
def pendingAfterLevel (now : Time) (i : SourceNo) (x : Source) (l : Option (Fin 4)) : Option Pending :=
  match x.level, l with
  | some _, some _ => x.pending
  | some _, none => none
  | none, some _ =>
    if sourceIsLevel i && x.cond then some { time := now, subject := x.lastSubject, value := x.lastValue, repeats := 0 }
    else none
  | none, none => x.pending

/-- SET SOURCE's step (R156). -/
def setLevel (a : Arbiter) (now : Time) (i : SourceNo) (l : Option (Fin 4)) : Arbiter :=
  (a.put i
    { a.sources[i] with
      level := l
      pending := pendingAfterLevel now i a.sources[i] l
      posted := if a.sources[i].level.isSome && l.isNone then false else a.sources[i].posted }).post

/-- SET MASK's step (R157). -/
def setMask (a : Arbiter) (mask attention : Fin 4) : Arbiter := { a with mask, attention }.post

/-- Whether a TAKE NOTICES with this Tag repeats the saved take (R162). -/
def isRepeat (a : Arbiter) (tag : Byte) : Bool := a.saved.any fun p => p.1 == tag

/-- TAKE NOTICES' step: a repeat changes nothing; otherwise up to 8 notices leave the head and are saved
with the Tag, and held sources are posted (R161, R162). -/
def take (a : Arbiter) (tag : Byte) : Arbiter :=
  if a.isRepeat tag then a
  else { { a with queue := a.queue.drop 8 }.post with saved := some (tag, a.queue.take 8) }

/-- NOTICE WAITING: a notice at or above the attention level stands in the queue (R163). -/
def noticeWaiting (a : Arbiter) : Bool := a.queue.any fun n => decide (a.attention ≤ n.level)

end Arbiter

/-! ### The arbiter in the state -/

/-- A raise at the present line-clock reading (R154). -/
def State.raise (s : State) (i : SourceNo) (subject : Option Nat) (value : Option Value) : State :=
  { s with arb := s.arb.raise s.clock i subject value }

/-- A condition report at the present line-clock reading (R155). -/
def State.report (s : State) (i : SourceNo) (cond : Bool) (subject : Option Nat) (value : Option Value) : State :=
  { s with arb := s.arb.report s.clock i cond subject value }

/-! ### Requests -/

/-- A source's pending record as the SET SOURCE reply gives it (R156, R188, log 27). -/
def pendingChars (p : Option Pending) : List Byte :=
  markByte p.isSome ++ optWord (p.map Pending.time) ++ opt1 (p.bind Pending.subject)
    ++ optWord ((p.bind Pending.value).map Value.word) ++ opt1 (p.map Pending.repeats)

/-- SET SOURCE (R156). -/
def ansSetSource (index level : Byte) (s : State) : State × Answer :=
  match sourceOf index with
  | none => (s, bare .badField)
  | some i =>
    let a := s.arb.setLevel s.clock i (levelOf level)
    ({ s with arb := a },
      doneClamped (decide (3 ≤ level.toNat ∧ level.toNat ≤ 254))
        (char1 i.val ++ char1 (levelCode (levelOf level)) ++ pendingChars a.sources[i].pending))

/-- SET MASK (R157). -/
def ansSetMask (mask attention : Byte) (s : State) : State × Answer :=
  ({ s with arb := s.arb.setMask (maskOf mask) (maskOf attention) },
    doneClamped (decide (3 < mask.toNat ∨ 3 < attention.toNat))
      (char1 (maskOf mask).val ++ char1 (maskOf attention).val))

/-- The content of a TAKE NOTICES reply: n, the notices, the remaining count (R161). -/
def noticesContent (ns : List Notice) (remaining : Nat) : List Byte :=
  char1 ns.length ++ ns.flatMap Notice.chars ++ char1 remaining

/-- TAKE NOTICES (R161, R162). -/
def ansTakeNotices (tag : Byte) (s : State) : State × Answer :=
  let a := s.arb.take tag
  ({ s with arb := a }, doneWith (noticesContent ((a.saved.map Prod.snd).getD []) a.queue.length))

end Sys2Proof.Machine
end

