-- ==== Sys2Proof/Machine/Totals.lean ====
section
/-! DEFINITION. Totals (chapter 6): additions with saturation, READ TOTALS and CLEAR TOTALS. -/

namespace Sys2Proof.Machine

/-! ### The totals by name (R113) -/

/-- The recovered total of a class; UNDECLARED for no class (R115). -/
def totRecovered (c : Option Gas) : TotalNo :=
  match c with
  | some .chloro => 0
  | some .fluoro => 1
  | some .hydro => 2
  | none => 3

def totOil : TotalNo := 4
def totCaptured : TotalNo := 5
def totAttributed : TotalNo := 6
def totPool : TotalNo := 7
def totDrained : TotalNo := 8

/-- The closings count of an extraction verdict, or of none (R113, R116). -/
def totVerdict (v : Option Verdict) : TotalNo :=
  match v with
  | some .complete => 9
  | some .short => 10
  | some .empty => 11
  | some .unrated => 12
  | some .waived => 13
  | some .conflict => 14
  | none => 15

/-- The closings count of a foam verdict (R113, R116). -/
def totFoam (v : FoamVerdict) : TotalNo :=
  match v with
  | .adequate => 16
  | .low => 17
  | .noFoam => 18
  | .notShredded => 19

/-- Addition to a total: exact, saturating, the indicator set from the exact sum (R114). -/
def Total.add (t : Total) (n : Nat) : Total :=
  if t.value + n ≤ Config.max32 then { t with value := t.value + n } else { value := Config.max32, saturated := true }

/-- An addition to a total; TOTAL_SATURATED is raised where it sets an indicator that was clear (R114). -/
def State.addTotal (s : State) (i : TotalNo) (n : Nat) : State :=
  let t : State := { s with totals := s.totals.set i (s.totals[i].add n) }
  if (s.totals[i].add n).saturated && !s.totals[i].saturated then t.raise srcSaturated (some i.val) (some (.number n))
  else t

/-- The class under which a record's recovered mass is counted: the measured class, else the declared
class, else UNDECLARED (R115). -/
def Record.countedClass (r : Record) : Option Gas := r.measured.orElse fun _ => r.declared

/-- The additions of a close, in their order (R116). -/
def State.addClose (s : State) (r : Record) : State :=
  (((s.addTotal (totRecovered r.countedClass) r.mr).addTotal totOil r.mo).addTotal (totVerdict r.verdict) 1).addTotal
    (totFoam (r.foamVerdict.getD .notShredded)) 1

/-- The totals and indicators in index order, the start time and the line clock (R118). -/
def State.totalsContent (s : State) : List Byte :=
  s.totals.toList.flatMap (fun t => num4 t.value ++ markByte t.saturated) ++ word4 s.totalsStart ++ word4 s.clock

/-- READ TOTALS (R118). -/
def ansReadTotals (s : State) : State × Answer := (s, doneWith s.totalsContent)

/-- CLEAR TOTALS (R119): the reply shows the totals as they stood. -/
def ansClearTotals (s : State) : State × Answer :=
  ({ s with totals := totalsReset, totalsStart := s.clock }, doneWith s.totalsContent)

end Sys2Proof.Machine
end

