-- ==== Sys2Proof/Machine/Table.lean ====
section
/-! DEFINITION. The Appliance Table (chapter 1, R110 to R112): admission, the moves of records between
phases and collections, closing and removal, and the table's own requests. -/

namespace Sys2Proof.Machine

/-! ### The nearly-full condition (R21) -/

/-- The record count is 44 or more (R21). -/
def State.nearlyFull (s : State) : Bool := decide (44 ≤ s.recordCount)

/-- TABLE_NEARLY_FULL is reported where it has changed (R21). -/
def State.judgeNearlyFull (s : State) : State :=
  s.report srcNearlyFull s.nearlyFull none (some (.number s.recordCount))

/-! ### Admission (R6 to R8) -/

/-- Whether a declaration marks a record FLAMMABLE (R6). -/
def declaredFlammable (d : Declared) (a : FoamAgent) : Bool :=
  d == some .hydro || d == none || a == .hydro || a == .unknown

/-- Expected foam gas fixed at admission (R8). -/
def State.expectedFoam (s : State) (c : Fin 7) (a : FoamAgent) : Nat :=
  if a = .noAgent then 0
  else if h : c.val = 0 then 0
  else s.item (iFoam ⟨c.val - 1, by omega⟩)

/-- A rated charge as taken (R7). -/
def takenCharge (c : Word) : Nat := min c.toNat 20000

/-- A new record (R3, R6, R8). -/
def State.newRecord (s : State) (i : Slot) (id : Word) (d : Declared) (c : Word) (fc : Fin 7) (a : FoamAgent) : Record :=
  { slot := i, ident := id, seq := s.table.seqCtr, declared := d, charge := takenCharge c, foamClass := fc, foamAgent := a,
    expected := s.expectedFoam fc a, phase := .queued, attempts := 0, bound := none, used := [], measured := none, mr := 0,
    mo := 0, rho := none, verdict := none, releaseOrder := none, feedTime := none, ticks := none, foam := 0, gamma := none,
    foamVerdict := none, closeTime := none, flags := { flammable := declaredFlammable d a } }

/-- The admission of a record into a slot (R8). -/
def State.enrol (s : State) (i : Slot) (r : Record) : State :=
  ({ s with table := { s.table.put i (some r) with seqCtr := s.table.seqCtr + 1 } }).judgeNearlyFull

/-- ADMIT APPLIANCE (R7, R8). The reply holds the fields R8 lists, so a clamped charge shows by CLAMPED alone: that
R187's value as taken is not added to them is the model's choice (log 33). -/
def ansAdmit (id : Word) (declared : Byte) (charge : Word) (foamClass foamAgent : Byte) (s : State) : State × Answer :=
  if id = 0 then (s, bare .badField)
  else
    match declaredOf declared, foamClassOf foamClass, foamAgentOf foamAgent with
    | some d, some fc, some fa =>
      if (s.findIdent id).isSome then (s, bare .duplicateIdent)
      else
        match s.lowestEmpty with
        | none => (s, bare .tableFull)
        | some i =>
          let r := s.newRecord i id d charge fc fa
          (s.enrol i r,
            doneClamped (decide (20000 < charge.toNat))
              (char1 i.val ++ word4 r.seq ++ num4 r.expected ++ markByte r.flammable))
    | _, _, _ => (s, bare .badField)

/-! ### Moves of a record -/

/-- A record bound to a station (R9). -/
def Record.bind (n : StationNo) (r : Record) : Record := { r with phase := .extracting, bound := some n }

/-- A record returned to QUEUED (R10). -/
def Record.unbind (r : Record) : Record := { r with phase := .queued, bound := none }

/-- RELEASE TO SHRED's move (R12). -/
def State.release (s : State) (i : Slot) : State :=
  let order := s.table.relCtr
  let t := s.table.mod i fun r => { r with phase := .shredWait, releaseOrder := some order }
  { s with table := { t with relCtr := order + 1, shredQueue := t.shredQueue ++ [i] } }

/-- The Feeder takes the head: it leaves the queue, becomes FEEDING and the feeding slot (R14). -/
def State.takeHead (s : State) : State :=
  match s.table.shredQueue with
  | [] => s
  | i :: rest =>
    let t := s.table.mod i fun r => { r with phase := .feeding }
    { s with table := { t with shredQueue := rest, feeding := some i } }

/-- The feeding record returns to the head of the shred queue (R16). -/
def State.returnToHead (s : State) : State :=
  match s.table.feeding with
  | none => s
  | some i =>
    let t := s.table.mod i fun r => { r with phase := .shredWait }
    { s with table := { t with shredQueue := i :: s.table.shredQueue, feeding := none } }

/-- The feed event's part at the table: the feeding record becomes SHREDDING with its feed time and its
ticks, and joins the open-window set (R15, R76, R103). -/
def State.feedRecord (s : State) (t : Time) (byHost : Bool) : State :=
  match s.table.feeding with
  | none => s
  | some i =>
    let tb := s.table.mod i fun r =>
      ({ r with phase := .shredding, feedTime := some t, ticks := some (s.item iNSettle) }).flagIf byHost .feedClearedByHost
    { s with table := { tb with openSet := s.table.openSet ++ [i], feeding := none } }

/-- A record in CLOSED (R18, R19). -/
def Record.close (t : Time) (r : Record) : Record := { r with phase := .closed, ticks := none, closeTime := some t }

/-- The entry of a record to CLOSED: it leaves the shred queue and the open-window set, joins the tail of
the closed list, is handed to Totals, and APPLIANCE_CLOSED is raised (R18, R19, R21, R116). -/
def State.closeSlot (s : State) (i : Slot) : State :=
  match s.record i with
  | none => s
  | some r =>
    let c := r.close s.clock
    let t := s.table.put i (some c)
    let t := { t with
      shredQueue := t.shredQueue.filter (· != i)
      openSet := t.openSet.filter (· != i)
      closedList := t.closedList ++ [i] }
    (State.addClose { s with table := t } c).raise srcClosed (some i.val) (some (.ident c.ident))

/-! ### Taking closing records (R111, R112) -/

/-- Whether a TAKE CLOSED with this Tag repeats the saved take (R112). -/
def Table.isRepeat (t : Table) (tag : Byte) : Bool := t.saved.any fun p => p.1 == tag

/-- The records at the head of the closed list, up to 4 (R111). -/
def State.closedHead (s : State) : List Record := (s.table.closedList.take 4).filterMap s.record

/-- The removal of up to 4 closed records, saved with the Tag (R111, R112). -/
def State.takeClosed (s : State) (tag : Byte) : State :=
  let t := (s.table.closedList.take 4).foldl (fun t i => t.put i none) s.table
  ({ s with table := { t with closedList := s.table.closedList.drop 4, saved := some (tag, s.closedHead) } }).judgeNearlyFull

/-- The content of a TAKE CLOSED reply: n, the closing records, the remaining count (R111). -/
def closedContent (rs : List Record) (remaining : Nat) : List Byte :=
  char1 rs.length ++ rs.flatMap Record.closingChars ++ char1 remaining

/-- TAKE CLOSED (R111, R112). -/
def ansTakeClosed (tag : Byte) (s : State) : State × Answer :=
  let t := if s.table.isRepeat tag then s else s.takeClosed tag
  (t, doneWith (closedContent ((t.table.saved.map Prod.snd).getD []) t.table.closedList.length))

/-! ### Queries (R22, R23) -/

/-- QUERY APPLIANCE (R22); the slot is read from the four-character field as log 30 says. -/
def ansQuery (selector : Byte) (key : Word) (s : State) : State × Answer :=
  if selector = 1 then
    if key = 0 then (s, bare .badField)
    else
      match (s.findIdent key).bind s.record with
      | none => (s, bare .noSuchAppliance)
      | some r => (s, doneWith r.chars)
  else if selector = 2 then
    match slotOf key with
    | none => (s, bare .badField)
    | some i =>
      match s.record i with
      | none => (s, bare .noSuchAppliance)
      | some r => (s, doneWith r.chars)
  else (s, bare .badField)

/-- Phases two to a character, the lower slot in the high four bits (R188). -/
def phaseChars : List Nat → List Byte
  | [] => []
  | [a] => char1 (16 * a)
  | a :: b :: rest => char1 (16 * a + b) ++ phaseChars rest

/-- The packed content of LIST TABLE (R23, R188). -/
def State.listContent (s : State) : List Byte :=
  let present := allSlots.filterMap s.record
  (List.range 6).map (fun k => bits8 ((List.range 8).map fun j => ((s.table.slots[8 * k + j]?).join).isSome))
    ++ present.flatMap (fun r => word4 r.ident) ++ phaseChars (present.map fun r => r.phase.code)

/-- LIST TABLE (R23). -/
def ansListTable (s : State) : State × Answer := (s, doneWith s.listContent)

end Sys2Proof.Machine
end

