-- ==== Sys2Proof/Machine/Feed.lean ====
section
/-! DEFINITION. The Shredder Feeder (R70 to R82): the permit, the gate cycle, jams, and the effect of trip
and STOP at the gate. -/

namespace Sys2Proof.Machine

/-! ### The feed permit (R73, R81) -/

/-- The atmosphere the head record needs: INERT where it holds FLAMMABLE, else AIR or INERT (R73). -/
def State.atmosphereFits (s : State) : Bool :=
  s.atm.state == .inert || (s.atm.state == .air && !s.flammableHead)

/-- The vessel condition: B2 has status OK and its value is below V_high (R73, R81). -/
def State.vesselFits (s : State) : Bool :=
  (s.channel 10).status == .ok && decide ((s.channel 10).value < (s.item iVHigh : Int))

/-- The feed permit for the head of the shred queue (R73). -/
def State.permit (s : State) : Bool :=
  s.line.state == .run && s.pins.shredderRunning && decide (s.table.openSet.length < Config.maxOpen)
    && s.vesselFits && s.atmosphereFits

/-! ### The gate cycle (R72, R74 to R77) -/

/-- The Feeder in a timed state, its limit copied and its timer started (R71). -/
def State.feederTimed (s : State) (st : FeederState) (limit : Item) : State :=
  { s with feeder := { s.feeder with
      state := st, copied := some (s.item limit), deadline := some (after s.clock (s.item limit)) } }

/-- The Feeder in a state without a timer (R71). -/
def State.feederUntimed (s : State) (st : FeederState) : State :=
  { s with feeder := { s.feeder with state := st, copied := none, deadline := none } }

/-- Entry to PASSING (R75). -/
def State.enterPassing (s : State) : State := s.feederTimed .passing iTPass

/-- Entry to OPENING: the head becomes FEEDING; an open gate leads on to PASSING at once (R74). -/
def State.enterOpening (s : State) : State :=
  let t := s.takeHead.feederTimed .opening iTOpen
  if t.pins.gateClosed then t else t.enterPassing

/-- The permit's judgement in WAIT_PERMIT (R73), and the return to IDLE when the queue is empty (R72). -/
def State.judgePermit (s : State) : State :=
  if s.feeder.state = .waitPermit then
    if s.table.shredQueue = [] then s.feederUntimed .idle
    else if s.permit then s.enterOpening else s
  else s

/-- In IDLE the Feeder enters WAIT_PERMIT when the shred queue is non-empty, and judges the permit there
(R72, R73). -/
def State.judgeIdle (s : State) : State :=
  if s.feeder.state = .idle ∧ s.table.shredQueue ≠ [] then (s.feederUntimed .waitPermit).judgePermit else s

/-- Entry to IDLE (R72). -/
def State.feederToIdle (s : State) : State := (s.feederUntimed .idle).judgeIdle

/-- Entry to CLOSING: a closed gate leads on to IDLE at once (R76, R77). -/
def State.enterClosing (s : State) : State :=
  let t := s.feederTimed .closing iTClose
  if t.pins.gateClosed then t.feederToIdle else t

/-- Entry to JAMMED: gate off, timer stopped, FEED_JAM raised with the feeding slot, if any, as subject
(R78). -/
def State.enterJam (s : State) (c : JamCause) : State :=
  ({ s.feederUntimed .jammed with feeder := { (s.feederUntimed .jammed).feeder with jam := some c } }).raise srcFeedJam
    (s.table.feeding.map Fin.val) (some (.jam c))

/-- The feed event at a reading (R15, R76, R78). -/
def State.feedEvent (s : State) (t : Time) (byHost : Bool) : State :=
  let u := s.feedRecord t byHost
  { u with feeder := { u.feeder with lastFeed := some t } }

/-- An atmosphere trip or line STOP reaching the Feeder (R79). -/
def State.feederHalt (s : State) (c : JamCause) : State :=
  match s.feeder.state with
  | .opening => s.returnToHead.feederToIdle
  | .passing => s.enterJam c
  | _ => s

/-! ### VESSEL_HIGH (R82) -/

/-- The condition of VESSEL_HIGH (R82). -/
def State.vesselHigh (s : State) : Bool :=
  (s.channel 10).status == .ok && decide ((s.item iVHigh : Int) ≤ (s.channel 10).value)

/-- VESSEL_HIGH is judged (R82). -/
def State.judgeVessel (s : State) : State :=
  s.report srcVesselHigh s.vesselHigh none (some (.number (s.channel 10).value))

/-- The Feeder's part of a pass completion (R125). -/
def State.feederPass (s : State) : State := s.judgeVessel.judgePermit

/-! ### Events of the gate and the shredder -/

/-- GATE CLOSED becoming false (R74); no change where it is false already. -/
def State.gateOpened (s : State) : State :=
  if !s.pins.gateClosed then s
  else
    let t := { s with pins := { s.pins with gateClosed := false } }
    if t.feeder.state = .opening then t.enterPassing else t

/-- GATE CLOSED becoming true (R77); no change where it is true already. -/
def State.gateShut (s : State) : State :=
  if s.pins.gateClosed then s
  else
    let t := { s with pins := { s.pins with gateClosed := true } }
    if t.feeder.state = .closing then t.feederToIdle else t

/-- The T_open expiry: the record returns to the head, then the jam (R74). -/
def State.openExpired (s : State) : State :=
  if s.feeder.state = .opening ∧ s.due s.feeder.deadline then s.returnToHead.enterJam .gateStuck else s

/-- The T_pass expiry: the jam, with the record still FEEDING (R75). -/
def State.passExpired (s : State) : State :=
  if s.feeder.state = .passing ∧ s.due s.feeder.deadline then s.enterJam .feedJam else s

/-- The T_close expiry (R77). -/
def State.closeExpired (s : State) : State :=
  if s.feeder.state = .closing ∧ s.due s.feeder.deadline then s.enterJam .gateStuck else s

/-- A broken-to-clear edge of BEAM: captured in PASSING, where it is the feed event; ignored elsewhere
(R75, R76, R146). -/
def State.beamCleared (s : State) : State :=
  let t := { s with pins := { s.pins with beam := false } }
  if t.feedArmed then (t.feedEvent t.clock false).enterClosing else t

/-- A level of SHREDDER RUNNING; a change makes the Feeder judge its permit (R73). -/
def State.shredderRuns (s : State) (running : Bool) : State :=
  if s.pins.shredderRunning = running then s
  else State.judgePermit { s with pins := { s.pins with shredderRunning := running } }

/-! ### Requests -/

/-- The Feeder leaves JAMMED for IDLE (R78). -/
def State.freeJam (s : State) : State :=
  State.feederToIdle { s with feeder := { s.feeder with jam := none } }

/-- The checks of FEED CLEAR and FEED RETURN (R78). -/
def State.jamCheck (s : State) : Option Status :=
  if s.feeder.state ≠ .jammed then some .wrongPhase
  else if !s.pins.gateClosed then some .gateOpen
  else none

/-- FEED CLEAR (R78). -/
def ansFeedClear (s : State) : State × Answer :=
  match s.jamCheck with
  | some st => (s, bare st)
  | none => ((if s.table.feeding.isSome then s.feedEvent s.clock true else s).freeJam, bare .done)

/-- FEED RETURN (R78). -/
def ansFeedReturn (s : State) : State × Answer :=
  match s.jamCheck with
  | some st => (s, bare st)
  | none => (s.returnToHead.freeJam, bare .done)

/-- WITHDRAW's move to CLOSED (R19). A change of the head makes the Feeder judge again (R73); an emptied
queue sends it to IDLE (R72). -/
def State.withdrawSlot (s : State) (i : Slot) : State :=
  let t := (s.modRecord i fun r => { r with foamVerdict := some .notShredded }).closeSlot i
  if s.table.shredQueue.head? = some i then t.judgePermit else t

/-- WITHDRAW (R19). -/
def ansWithdraw (id : Word) (s : State) : State × Answer :=
  if id = 0 then (s, bare .badField)
  else
    match s.findIdent id with
    | none => (s, bare .noSuchAppliance)
    | some i =>
      match (s.record i).map Record.phase with
      | some .queued | some .extracted | some .shredWait =>
        (s.withdrawSlot i, bare .done)
      | _ => (s, bare .wrongPhase)

/-- RELEASE TO SHRED (R12): an entry joining the queue moves an idle Feeder to WAIT_PERMIT (R72). -/
def ansRelease (id : Word) (s : State) : State × Answer :=
  if id = 0 then (s, bare .badField)
  else
    match s.findIdent id with
    | none => (s, bare .noSuchAppliance)
    | some i =>
      if (s.record i).map Record.phase = some .extracted then
        ((s.release i).judgeIdle,
          doneWith (word4 s.table.relCtr ++ char1 (s.release i).table.shredQueue.length))
      else (s, bare .wrongPhase)

end Sys2Proof.Machine
end

