-- ==== Sys2Proof/Machine/Rings.lean ====
section
/-! DEFINITION. Channel records (R126 to R130): scaling, fault and recovery, the ring, settledness; the
readings a weighing or a tick forms from a ring (R55, R56, R95); SET CHANNEL's effect (R132). -/

namespace Sys2Proof.Machine

/-- A channel in FAULT LOW or FAULT HIGH. -/
def Channel.faulted (c : Channel) : Bool := c.status == .faultLow || c.status == .faultHigh

/-- The scaled value of a good reading, rounded to the nearest integer and clamped to the limits (R126). -/
def Channel.scaled (c : Channel) (r : Raw) : Int :=
  clampInt c.low c.high (c.zero + (r.toNat * c.span + 32767) / 65535)

/-- A ring with a value appended; of nine values the oldest leaves (R129). -/
def ringPush (ring : List Int) (v : Int) : List Int :=
  if ring.length < 8 then ring ++ [v] else ring.tail ++ [v]

/-- The completion of a conversion (R126 to R128): 0 and 65,535 are faults that hold value and ring; a good
reading is scaled and written, to a restarted ring where the channel was in fault. -/
def Channel.convert (c : Channel) (r : Raw) : Channel :=
  if r = 0 then { c with raw := some r, status := .faultLow }
  else if r = 65535 then { c with raw := some r, status := .faultHigh }
  else
    { c with
      raw := some r
      status := .ok
      value := c.scaled r
      ring := ringPush (if c.faulted then [] else c.ring) (c.scaled r) }

/-- The exact sum of a ring. -/
def ringSum (ring : List Int) : Int := ring.foldl (· + ·) 0

/-- The largest value of a ring less its smallest. -/
def ringSpread : List Int → Int
  | [] => 0
  | v :: rest => rest.foldl max v - rest.foldl min v

/-- The settled flag (R130). -/
def Channel.settled (c : Channel) : Bool :=
  c.status == .ok && c.ring.length == 8 && decide (ringSpread c.ring ≤ (c.band : Int))

/-- The settled value: the mean of the eight values rounded half up (R55). -/
def Channel.settledValue (c : Channel) : Int := (ringSum c.ring + 4) / 8

/-- The reading taken at a T_settle expiry (R56). -/
def Channel.finalReading (c : Channel) : Int :=
  if c.settled then c.settledValue
  else if c.ring = [] then c.value
  else ringSum c.ring / c.ring.length

/-- The vessel reading of a tick: absent in a sensor gap, else the mean rounded half up, clamped to
0 to 2,000,000 (R95). -/
def Channel.vesselReading (c : Channel) : Option Nat :=
  if c.status = .ok ∧ c.ring.length = 8 then some (clampInt 0 2000000 c.settledValue).toNat else none

/-- The reading of a channel for a pressure test: none without status OK (R27). -/
def Channel.reading (c : Channel) : Option Int := if c.status = .ok then some c.value else none

/-- The five configured fields SET CHANNEL carries, clamped to their ranges, the high limit raised to the
low limit where it lies below (R121, R132). -/
structure ChannelSetup where
  zero : Int
  span : Int
  low : Int
  high : Int
  band : Nat
  deriving DecidableEq, Repr

/-- The range of zero, span and limits (R121). -/
def clampField (x : Int) : Int := clampInt (-10000000) 10000000 x

/-- The setup taken from the five values sent (R132). -/
def takenSetup (zero span low high : Int) (band : Nat) : ChannelSetup :=
  { zero := clampField zero, span := clampField span, low := clampField low,
    high := max (clampField low) (clampField high), band := min band 1000000 }

/-- SET CHANNEL's effect on a record: the five values are taken, the ring restarts, the held value is
clamped into the new limits, status and raw stay (R132). -/
def Channel.configure (c : Channel) (u : ChannelSetup) : Channel :=
  { c with
    zero := u.zero
    span := u.span
    low := u.low
    high := u.high
    band := u.band
    value := clampInt u.low u.high c.value
    ring := [] }

end Sys2Proof.Machine
end

