-- ==== Sys2Proof/Machine/Weighing.lean ====
section
/-! DEFINITION. The mass computation (chapter 3) and the receiver gate (R52): the parts of the weighing
step as functions of the readings, the record and the receiver. -/

namespace Sys2Proof.Machine

/-- A clamped increment: a negative difference is taken as 0 (R59). -/
def increment (final tare : Int) : Nat := (final - tare).toNat

/-- The record after its masses take an attempt's increments, with the flags of the weighing (R56, R59,
R60). -/
def Record.weighed (r : Record) (dMr dMo : Nat) (negative unsettled : Bool) : Record :=
  ((({ r with mr := satAdd 40000 r.mr dMr, mo := satAdd 40000 r.mo dMo }).flagIf unsettled .unsettledFinal).flagIf negative
    .negativeClamped).flagIf (decide (40000 < r.mr + dMr ∨ 40000 < r.mo + dMo)) .massSaturated

/-- The record's class for the receiver gate: the measured class, else the declared class (R52). -/
def Record.gateClass (r : Record) : Declared := r.measured.orElse fun _ => r.declared

/-- A receiver credited with an increment (R61). -/
def Receiver.credit (rc : Receiver) (dMr : Nat) : Receiver :=
  { rc with
    credited := satAdd Config.max32 rc.credited dMr
    count := if 0 < dMr then satAdd Config.max16 rc.count 1 else rc.count }

/-- The end causes that stop an extraction for good (R36, R47). -/
def EndCause.isConflict : EndCause → Bool
  | .conflict => true
  | .undetermined => true
  | _ => false

/-- The receiver gate (R52): the first row that applies decides. -/
def Receiver.gate (rc : Receiver) (cause : Option EndCause) (cls : Declared) (dMr mEmpty : Nat) : Receiver :=
  if cause.any EndCause.isConflict then
    if mEmpty < dMr then { rc.credit dMr with contaminated := true } else rc
  else if rc.assigned.isSome && rc.assigned == cls then rc.credit dMr
  else if rc.assigned.isNone && cls.isSome then { rc.credit dMr with assigned := cls }
  else if mEmpty < dMr then { rc.credit dMr with contaminated := true }
  else rc

/-- A ratio of a mass to a basis in per-mille, rounded down and limited to 1999 (R63, R104). -/
def permille (mass basis : Nat) : Nat := min 1999 (mass * 1000 / basis)

/-- The limit of a ratio takes effect: the exact quotient, before it is rounded down, exceeds 1999 (R63, R104). -/
def ratioExceeds (mass basis : Nat) : Bool := decide (1999 * basis < mass * 1000)

/-- The extraction verdict of lines 3 to 6 (R64). -/
def massVerdict (mr c mEmpty rhoMin : Nat) : Verdict :=
  if mr < mEmpty then .empty
  else if c = 0 then .unrated
  else if rhoMin ≤ permille mr c then .complete
  else .short

/-- The record's entry to EXTRACTED: ρ, absent where C is 0, with RATIO_SATURATED, the verdict, the phase, and
the end of its binding (R11, R63). -/
def Record.extract (r : Record) (v : Verdict) : Record :=
  ({ r with
    rho := if r.charge = 0 then none else some (permille r.mr r.charge)
    verdict := some v
    phase := .extracted
    bound := none }).flagIf (r.charge != 0 && ratioExceeds r.mr r.charge) .ratioSaturated

end Sys2Proof.Machine
end

