-- ==== Sys2Proof/Machine/Extract.lean ====
section
/-! DEFINITION. The extraction stations (chapter 2): the sequence, the probe, aborts and faults, the
weighing step, and the station requests. -/

namespace Sys2Proof.Machine

/-! ### Entries to states -/

/-- A station enters a timed state (R28, R143). -/
def State.enterTimed (s : State) (n : StationNo) (st : StationState) (ms : Nat) : State :=
  s.modStation n fun x => { x with state := st, deadline := some (after s.clock ms) }

/-- Entry to AWAIT_UNCLAMP, which an open clamp leaves at once for IDLE (R42). -/
def State.enterAwait (s : State) (n : StationNo) : State :=
  s.modStation n fun x =>
    { x with
      state := if s.pins.clamp[n] then .awaitUnclamp else .idle
      bound := none
      endCause := none
      deadline := none
      probeDeadline := none }

/-- Entry to FAULTED, with STATION_FAULT_n raised (R48). -/
def State.enterFaulted (s : State) (n : StationNo) (c : FaultCause) (subject : Option Slot) : State :=
  (s.modStation n fun x =>
    { x with
      state := .faulted
      bound := none
      endCause := none
      faultCause := some c
      deadline := none
      probeDeadline := none }).raise (srcStationFault n) (subject.map Fin.val) (some (.fault c))

/-- The bound record returns to QUEUED (R10). -/
def State.returnBound (s : State) (n : StationNo) : State :=
  match (s.station n).bound with
  | none => s
  | some i => s.modRecord i Record.unbind

/-! ### The weighing step (R62) -/

/-- The end of an attempt by its end cause, after the masses are in (R41, R47, R62 parts 5 and 6). -/
def State.endAttempt (s : State) (n : StationNo) (i : Slot) : State :=
  match (s.station n).endCause with
  | some .abort | some .stop | some .clampOpened => (s.modRecord i Record.unbind).enterAwait n
  | some .receiverFull => (s.modRecord i Record.unbind).enterFaulted n .receiverFull (some i)
  | some .conflict | some .undetermined =>
    ((s.modRecord i fun r => r.extract .conflict).raise (srcStationDone n) (some i.val) (some (.verdict .conflict))).enterAwait n
  | none =>
    match s.record i with
    | none => s
    | some r =>
      let v := massVerdict r.mr r.charge (s.item iMEmpty) (s.item iRhoMin)
      ((s.modRecord i fun r => r.extract v).raise (srcStationDone n) (some i.val) (some (.verdict v))).enterAwait n

/-- The weighing step (R62): the final readings are recorded, the increments formed, the record's masses
increased, the receiver gated, and the attempt ended. -/
def State.weigh (s : State) (n : StationNo) (wf ofl : Int) (unsettled : Bool) : State :=
  match (s.station n).bound with
  | none => s
  | some i =>
    match s.record i with
    | none => s
    | some r =>
      let x := s.station n
      let wt := x.tareReceiver.getD 0
      let ot := x.tareOil.getD 0
      let dMr := increment wf wt
      let t := s.modRecord i fun r => r.weighed dMr (increment ofl ot) (decide (wf < wt ∨ ofl < ot)) unsettled
      let u := t.modStation n fun x =>
        { x with
          finalReceiver := some wf
          finalOil := some ofl
          receiver := x.receiver.gate x.endCause r.gateClass dMr (s.item iMEmpty) }
      u.endAttempt n i

/-- Both of a station's rings are settled (R32). -/
def State.ringsSettled (s : State) (n : StationNo) : Bool :=
  (s.channel (scaleChannel n)).settled && (s.channel (cupChannel n)).settled

/-- Entry to PIERCING from TARING: the tare is recorded, the attempt counts (R4, R32, R33). -/
def State.enterPiercing (s : State) (n : StationNo) : State :=
  let t := (s.modStation n fun x =>
    { x with
      tareReceiver := some (s.channel (scaleChannel n)).settledValue
      tareOil := some (s.channel (cupChannel n)).settledValue
      pierced := true }).enterTimed n .piercing (s.item iTPierce)
  match (s.station n).bound with
  | none => t
  | some i => t.modRecord i fun r => { r with attempts := r.attempts + 1, used := r.used ++ [n] }

/-- The judgement of the rings in TARING, WEIGHING and ABORT_WEIGHING (R32, R41, R47). -/
def State.judgeRings (s : State) (n : StationNo) : State :=
  if s.ringsSettled n then
    match (s.station n).state with
    | .taring => s.enterPiercing n
    | .weighing | .abortWeighing =>
      s.weigh n (s.channel (scaleChannel n)).settledValue (s.channel (cupChannel n)).settledValue false
    | _ => s
  else s

/-- Entry to TARING (R32). -/
def State.enterTaring (s : State) (n : StationNo) : State := (s.enterTimed n .taring (s.item iTSettle)).judgeRings n

/-- Entry to CLAMPING, which a closed clamp leaves at once (R31). -/
def State.enterClamping (s : State) (n : StationNo) : State :=
  let t := s.enterTimed n .clamping (s.item iTClamp)
  if s.pins.clamp[n] then t.enterTaring n else t

/-- Entry to WEIGHING (R41). -/
def State.enterWeighing (s : State) (n : StationNo) : State := (s.enterTimed n .weighing (s.item iTSettle)).judgeRings n

/-- Entry to ABORT_WEIGHING with its end cause (R46, R47). -/
def State.enterAbortWeighing (s : State) (n : StationNo) (c : EndCause) : State :=
  ((s.modStation n fun x => { x with endCause := some c, probeDeadline := none }).enterTimed n .abortWeighing
    (s.item iTSettle)).judgeRings n

/-- Entry to DRAINING_OIL; a T_drain of 0 passes on to WEIGHING in the same step (R40). -/
def State.enterDraining (s : State) (n : StationNo) : State :=
  if s.item iTDrain = 0 then s.enterWeighing n else s.enterTimed n .drainingOil (s.item iTDrain)

/-- Entry to RISE_TEST (R39). -/
def State.enterRiseTest (s : State) (n : StationNo) : State :=
  (s.modStation n fun x =>
    { x with riseRef := (s.channel (suctionChannel n)).reading, copyRise := s.item iPRise }).enterTimed n .riseTest
      (s.item iTRise)

/-- The fill comparison in EVACUATING (R37). -/
def State.judgeFill (s : State) (n : StationNo) : State :=
  if (s.station n).state = .evacuating ∧ ((s.station n).copyFill : Int) ≤ (s.channel (scaleChannel n)).value then
    s.enterAbortWeighing n .receiverFull
  else s

/-- Entry to EVACUATING: limits copied, dwell start absent; the first entry of the attempt sets the probe
deadline; the fill limit is compared (R34, R37, R144). -/
def State.enterEvacuating (s : State) (n : StationNo) (first : Bool) : State :=
  ((s.modStation n fun x =>
    { x with
      copyTarget := s.item iPTarget
      copyDwell := s.item iTDwell
      copyFill := s.item (iFill n)
      dwellStart := none
      probeDeadline := if first then some (after s.clock (s.item iTProbe)) else x.probeDeadline }).enterTimed n .evacuating
        (s.item iTEvac)).judgeFill n

/-! ### Pressure judgements -/

/-- The dwell's judgement at a suction conversion in EVACUATING (R34). -/
def State.judgeDwell (s : State) (n : StationNo) : State :=
  let x := s.station n
  match (s.channel (suctionChannel n)).reading with
  | none => s.modStation n fun x => { x with dwellStart := none }
  | some p =>
    if (x.copyTarget : Int) < p then s.modStation n fun x => { x with dwellStart := none }
    else
      match x.dwellStart with
      | none => s.modStation n fun x => { x with dwellStart := some s.clock }
      | some t => if x.copyDwell ≤ elapsed t s.clock ∧ x.probeTaken = true then s.enterRiseTest n else s

/-- The judgement of a rise at a suction conversion in RISE_TEST (R39). -/
def State.judgeRise (s : State) (n : StationNo) : State :=
  let x := s.station n
  match (s.channel (suctionChannel n)).reading, x.riseRef with
  | some p, some ref =>
    if ref + (x.copyRise : Int) < p then
      if x.rises < 2 then (s.modStation n fun x => { x with rises := x.rises + 1 }).enterEvacuating n false
      else
        match x.bound with
        | none => s.enterDraining n
        | some i => (s.modRecord i (Record.flag .outgassing)).enterDraining n
    else s
  | _, _ => s

/-- The station's judgement at a conversion of its suction pressure (R27). -/
def State.suctionConverted (s : State) (n : StationNo) : State :=
  match (s.station n).state with
  | .evacuating => s.judgeDwell n
  | .riseTest => s.judgeRise n
  | _ => s

/-- The station's judgement at a conversion of its receiver scale (R27, R37). -/
def State.scaleConverted (s : State) (n : StationNo) : State :=
  match (s.station n).state with
  | .evacuating => s.judgeFill n
  | _ => s.judgeRings n

/-! ### The probe (R35, R36) -/

/-- The record after a probe: the first result becomes the measured class, FLAMMABLE follows HYDRO, and a
mismatch is flagged (R6, R35). -/
def Record.probed (r : Record) (g : Gas) (mismatch : Bool) : Record :=
  ((if r.measured.isNone then ({ r with measured := some g }).flagIf (g == Gas.hydro) .flammable else r)).flagIf mismatch
    .classMismatch

/-- Whether a probe result differs from the declared class or from a measured class held already (R35). -/
def Record.mismatches (r : Record) (g : Gas) : Bool :=
  r.declared.any (fun d => d != g) || r.measured.any (fun m => m != g)

/-- The class an attempt is fixed to: the probe result, else the measured class, else the declared class
(R36). -/
def Record.attemptClass (r : Record) (result : Option Gas) : Option Gas :=
  result.orElse fun _ => r.measured.orElse fun _ => r.declared

/-- What the probe's judgement decides (R36). -/
inductive ProbeOutcome where
  | conflict | undetermined | assign (g : Gas) | carryOn (g : Gas)
  deriving DecidableEq, Repr

/-- The judgement of the attempt class against the receiver; `r` is the record before the probe (R36). -/
def probeOutcome (r : Record) (rc : Receiver) (result : Option Gas) : ProbeOutcome :=
  if result.any fun g => r.measured.any fun m => m != g then .conflict
  else
    match r.attemptClass result with
    | none => .undetermined
    | some g =>
      match rc.assigned with
      | none => .assign g
      | some a => if a = g then .carryOn g else .conflict

/-- The attempt class and the receiver as the probe's outcome leaves them, and where it ends the attempt
the entry to ABORT_WEIGHING (R36). -/
def State.judgeProbe (s : State) (n : StationNo) (i : Slot) (cls : Option Gas) (o : ProbeOutcome) : State :=
  let t := s.modStation n fun x => { x with attemptClass := cls }
  match o with
  | .conflict => t.enterAbortWeighing n .conflict
  | .undetermined => (t.modRecord i (Record.flag .classUndetermined)).enterAbortWeighing n .undetermined
  | .assign g => t.modStation n fun x => { x with receiver := { x.receiver with assigned := some g } }
  | .carryOn _ => t

/-- The probe's record updates and CLASS_MISMATCH (R35). -/
def State.probeRecord (s : State) (i : Slot) (r : Record) (result : Option Gas) : State :=
  match result with
  | none => s
  | some g =>
    let t := s.modRecord i fun r => r.probed g (r.mismatches g)
    if r.mismatches g then t.raise srcClassMismatch (some i.val) (some (.gas g)) else t

/-- The probe (R35, R36). -/
def State.takeProbe (s : State) (n : StationNo) (pair : BitVec 2) : State :=
  let s0 := s.modStation n fun x => { x with probeTaken := true, probeDeadline := none }
  match (s.station n).bound with
  | none => s0
  | some i =>
    match s.record i with
    | none => s0
    | some r =>
      let result := gasOfPair pair
      (s0.probeRecord i r result).judgeProbe n i (r.attemptClass result)
        (probeOutcome r (s.station n).receiver result)

/-- The ANALYSER pair as the level of its input (log 6). -/
def State.analyserSeen (s : State) (n : StationNo) (pair : BitVec 2) : State :=
  { s with pins := { s.pins with analyser := s.pins.analyser.set n pair } }

/-- The probe deadline passes (R35, R144). -/
def State.probeExpired (s : State) (n : StationNo) (pair : BitVec 2) : State :=
  if (s.station n).state = .evacuating ∧ s.due (s.station n).probeDeadline then (s.analyserSeen n pair).takeProbe n pair
  else s

/-! ### Timer expiries -/

/-- An expiry of the station's timer in a state: present deadline reached (R28, R143). -/
def State.expires (s : State) (n : StationNo) (st : StationState) : Bool :=
  (s.station n).state == st && s.due (s.station n).deadline

/-- The T_clamp and T_settle expiries that fault a station before PIERCING (R31, R32, R48). -/
def State.faultUnpierced (s : State) (n : StationNo) (c : FaultCause) : State :=
  (s.returnBound n).enterFaulted n c (s.station n).bound

/-- The T_pierce expiry (R33). -/
def State.pierceExpired (s : State) (n : StationNo) : State :=
  if s.expires n .piercing then s.enterEvacuating n true else s

/-- The end of EVACUATING by T_evac, after any pending probe (R38). -/
def State.evacTimedOut (s : State) (n : StationNo) : State :=
  if (s.station n).state = .evacuating then
    match (s.station n).bound with
    | none => s.enterRiseTest n
    | some i => (s.modRecord i (Record.flag .evacTimeout)).enterRiseTest n
  else s

/-- The T_evac expiry (R35, R38). -/
def State.evacExpired (s : State) (n : StationNo) (pair : BitVec 2) : State :=
  if s.expires n .evacuating then
    if (s.station n).probeTaken then s.evacTimedOut n
    else ((s.analyserSeen n pair).takeProbe n pair).evacTimedOut n
  else s

/-- The T_rise expiry (R39). -/
def State.riseExpired (s : State) (n : StationNo) : State := if s.expires n .riseTest then s.enterDraining n else s

/-- The T_drain expiry (R40). -/
def State.drainExpired (s : State) (n : StationNo) : State :=
  if s.expires n .drainingOil then s.enterWeighing n else s

/-- The T_settle expiry in WEIGHING or ABORT_WEIGHING: the readings of R56, then the weighing step. -/
def State.settleExpired (s : State) (n : StationNo) : State :=
  if s.expires n .weighing || s.expires n .abortWeighing then
    s.weigh n (s.channel (scaleChannel n)).finalReading (s.channel (cupChannel n)).finalReading (!s.ringsSettled n)
  else s

/-! ### Aborts and STOP (R43 to R46) -/

/-- A station in CLAMPING to DRAINING_OIL, where an abort or STOP ends the attempt (R44, R45). -/
def StationState.running : StationState → Bool
  | .clamping => true
  | .taring => true
  | .piercing => true
  | .evacuating => true
  | .riseTest => true
  | .drainingOil => true
  | _ => false

/-- An abort of a running attempt: unweighed before PIERCING, through ABORT_WEIGHING after it (R46). -/
def State.abort (s : State) (n : StationNo) (c : EndCause) : State :=
  if (s.station n).pierced then s.enterAbortWeighing n c else (s.returnBound n).enterAwait n

/-- Line STOP at a station (R45). -/
def State.stationStop (s : State) (n : StationNo) : State :=
  if s.fitted n && (s.station n).state.running then s.abort n .stop else s

/-- CLAMP CLOSED becoming true (R31, R54); no change where it is true already. -/
def State.clampClosed (s : State) (n : StationNo) : State :=
  if s.pins.clamp[n] then s
  else
    let t := { s with pins := { s.pins with clamp := s.pins.clamp.set n true } }
    if (s.station n).state = .clamping then t.enterTaring n else t

/-- CLAMP CLOSED becoming false (R42, R43); no change where it is false already. -/
def State.clampOpen (s : State) (n : StationNo) : State :=
  if !s.pins.clamp[n] then s
  else
    let t := { s with pins := { s.pins with clamp := s.pins.clamp.set n false } }
    match (s.station n).state with
    | .taring | .piercing | .evacuating | .riseTest | .drainingOil =>
      (t.abort n .clampOpened).raise (srcStationFault n) ((s.station n).bound.map Fin.val) (some (.fault .clampOpened))
    | .awaitUnclamp => t.enterAwait n
    | _ => t

/-! ### Requests -/

/-- The checks of BEGIN EXTRACTION, 1 to 8, the first failing one deciding (R29). -/
def State.beginCheck (s : State) (n : StationNo) (id : Word) : Except Status Slot :=
  if s.line.state ≠ .run then .error .lineState
  else if !s.fitted n then .error .stationNotFitted
  else if (s.station n).state ≠ .idle then .error .stationBusy
  else
    match s.findIdent id with
    | none => .error .noSuchAppliance
    | some i =>
      match s.record i with
      | none => .error .noSuchAppliance
      | some r =>
        let rc := (s.station n).receiver
        if r.phase ≠ .queued then .error .wrongPhase
        else if 2 ≤ r.attempts then .error .attemptsSpent
        else if (s.item (iFill n) : Int) ≤ (s.channel (scaleChannel n)).value then .error .receiverFull
        else if !rc.contaminated && (rc.assigned == none || r.declared == none || r.declared == rc.assigned) then .ok i
        else .error .classConflict

/-- The start of a new attempt, then CLAMPING (R9, R30). -/
def State.beginAttempt (s : State) (n : StationNo) (i : Slot) : State :=
  ((s.modRecord i (Record.bind n)).modStation n fun x =>
    { x with
      bound := some i
      pierced := false
      probeTaken := false
      attemptClass := none
      tareReceiver := none
      tareOil := none
      finalReceiver := none
      finalOil := none
      dwellStart := none
      riseRef := none
      endCause := none
      rises := 0 }).enterClamping n

/-- BEGIN EXTRACTION (R29, R30). -/
def ansBegin (id : Word) (station : Byte) (s : State) : State × Answer :=
  if id = 0 then (s, bare .badField)
  else
    match stationOf station with
    | none => (s, bare .badField)
    | some n =>
      match s.beginCheck n id with
      | .error st => (s, bare st)
      | .ok i =>
        (s.beginAttempt n i,
          { status := .accepted, clamped := false,
            content := char1 (n.val + 1) ++ char1 i.val ++ char1 (((s.record i).map Record.attempts).getD 0) })

/-- A request that names a station: BAD_FIELD outside 1 to 4, STATION_NOT_FITTED where unfitted (R25). -/
def atStation (station : Byte) (s : State) (f : StationNo → State × Answer) : State × Answer :=
  match stationOf station with
  | none => (s, bare .badField)
  | some n => if s.fitted n then f n else (s, bare .stationNotFitted)

/-- ABORT EXTRACTION (R44). -/
def ansAbort (station : Byte) (s : State) : State × Answer :=
  atStation station s fun n =>
    if (s.station n).state.running then (s.abort n .abort, bare .accepted) else (s, bare .wrongPhase)

/-- WAIVE EXTRACTION (R50, R66). -/
def ansWaive (id : Word) (s : State) : State × Answer :=
  if id = 0 then (s, bare .badField)
  else if s.line.state = .stop then (s, bare .lineState)
  else
    match s.findIdent id with
    | none => (s, bare .noSuchAppliance)
    | some i =>
      if (s.record i).map Record.phase = some .queued then
        (s.modRecord i fun r => r.extract .waived, bare .done)
      else (s, bare .wrongPhase)

/-- CLEAR STATION (R49). -/
def ansClearStation (station : Byte) (s : State) : State × Answer :=
  atStation station s fun n =>
    if (s.station n).state = .faulted then
      ((s.modStation n fun x => { x with faultCause := none }).enterAwait n, bare .done)
    else (s, bare .wrongPhase)

/-- RECEIVER CHANGED (R51). -/
def ansReceiverChanged (station : Byte) (s : State) : State × Answer :=
  atStation station s fun n =>
    if (s.station n).state = .idle then (s.modStation n fun x => { x with receiver := receiverReset }, bare .done)
    else (s, bare .stationBusy)

/-- The content of READ STATION in the order of R53 (the rise-retry count as one character, log 15). -/
def State.stationContent (s : State) (n : StationNo) : List Byte :=
  let x := s.station n
  char1 x.state.code ++ opt1 (x.bound.map Fin.val) ++ char1 ((x.faultCause.map FaultCause.code).getD 0)
    ++ char1 ((x.endCause.map EndCause.code).getD 0) ++ char1 x.rises ++ markByte x.pierced ++ markByte x.probeTaken
    ++ char1 (gasCode x.attemptClass) ++ optInt x.tareReceiver ++ optInt x.tareOil ++ optInt x.finalReceiver
    ++ optInt x.finalOil ++ int4 (s.channel (scaleChannel n)).value ++ num4 (s.item (iFill n))
    ++ char1 (gasCode x.receiver.assigned) ++ num4 x.receiver.credited ++ num4 x.receiver.count
    ++ markByte x.receiver.contaminated

/-- READ STATION (R53). -/
def ansReadStation (station : Byte) (s : State) : State × Answer :=
  atStation station s fun n => (s, doneWith (s.stationContent n))

end Sys2Proof.Machine
end

