-- ==== Sys2Proof/Machine/Atmos.lean ====
section
/-! DEFINITION. The FLOW channel (R147, R148) and the Atmosphere Controller (R83 to R91): demand, trip test,
transitions, duty and flow supervision at each pass completion. -/

namespace Sys2Proof.Machine

/-! ### The FLOW channel -/

/-- A capture (R147): the latest reading becomes the previous one; one never read by the supervision counts
as overwritten. -/
def Flow.capture (f : Flow) (now : Time) : Flow :=
  { edges := 0, latest := some now, previous := f.latest, unused := true,
    overwrites := if f.unused then satAdd Config.max16 f.overwrites 1 else f.overwrites }

/-- A rising edge of FLOW (R147). -/
def Flow.edge (f : Flow) (divider : Nat) (now : Time) : Flow :=
  if f.edges + 1 = divider then f.capture now else { f with edges := f.edges + 1 }

/-- The nitrogen flow F in L/min as formed at a reading (R148). -/
def Flow.rate (f : Flow) (divider qPulse : Nat) (now : Time) : Nat :=
  match f.latest, f.previous with
  | some t, some p =>
    if 5000 < elapsed t now then 0 else min Config.max16 (divider * qPulse * 60 / max 1 (elapsed p t))
  | _, _ => 0

/-- F as it stands (R148). -/
def State.flowRate (s : State) : Nat := s.flow.rate (s.item iDivider) (s.item iQPulse) s.clock

/-- A rising edge of the FLOW input (R147). -/
def State.flowEdge (s : State) : State := { s with flow := s.flow.edge (s.item iDivider) s.clock }

/-! ### Demand and readings (R83, R85) -/

/-- Inert demand as formed from the table and the host hold (R85). -/
def State.demandNow (s : State) : Bool := s.flammableInside || s.flammableHead || s.atm.hostHold

/-- The readings of B0 and B1 as the Scanner holds them (R83). -/
def State.readingsNow (s : State) : AtmReadings :=
  { o2 := (s.channel 8).value, lfl := (s.channel 9).value, o2Status := (s.channel 8).status,
    lflStatus := (s.channel 9).status }

/-- Both channels are healthy (R86). -/
def AtmReadings.healthy (r : AtmReadings) : Bool := r.o2Status == .ok && r.lflStatus == .ok

/-- O2 is at or below L_inert (R88). -/
def State.o2Fits (s : State) (r : AtmReadings) : Bool := decide (r.o2 ≤ (s.item iLInert : Int))

/-- LFL is at or below L_feed (R88). -/
def State.lflFits (s : State) (r : AtmReadings) : Bool := decide (r.lfl ≤ (s.item iLFeed : Int))

/-! ### Trip (R86, R87) -/

/-- The trip conditions that hold (R86). -/
def State.tripNow (s : State) (r : AtmReadings) (demand : Bool) : TripCauses :=
  { lflHigh := decide ((s.item iLTripLFL : Int) < r.lfl)
    o2High := s.flammableInside && decide ((s.item iLTrip : Int) < r.o2)
    sensor := demand && !r.healthy }

/-- Whether any trip condition holds. -/
def TripCauses.any (c : TripCauses) : Bool := c.lflHigh || c.o2High || c.sensor

/-- MARGIN_LOST becomes false (R88). -/
def State.marginRegained (s : State) : State :=
  State.report { s with atm := { s.atm with marginLost := false } } srcMarginLost false none none

/-- Entry to TRIPPED (R87): causes recorded, hold and margin cleared, the Feeder takes the trip, the open
windows are flagged, ATMOSPHERE_TRIP is raised. -/
def State.enterTripped (s : State) (c : TripCauses) : State :=
  let t := State.marginRegained
    { s with atm := { s.atm with state := .tripped, tripCauses := some c, holdStart := none, holdLength := none } }
  let u := t.feederHalt .trip
  (u.modRecords u.table.openSet (Record.flag .tripDuringWindow)).raise srcTrip none (some (.trip c))

/-! ### Transitions (R88, R89) -/

/-- The controller in a state with its hold absent. -/
def State.setAtm (s : State) (st : AtmState) : State :=
  { s with atm := { s.atm with state := st, holdStart := none, holdLength := none } }

/-- Entry to AIR or INERT, which regains the margin (R88). -/
def State.enterSafe (s : State) (st : AtmState) : State := (s.setAtm st).marginRegained

/-- The running hold: its first passing pass sets its start and copies T_hold; a passing pass at least the
copied T_hold later completes it (R88, R89). -/
def State.runHold (s : State) (target : AtmState) : State :=
  match s.atm.holdStart with
  | none => { s with atm := { s.atm with holdStart := some s.clock, holdLength := some (s.item iTHold) } }
  | some t => if s.atm.holdLength.getD 0 ≤ elapsed t s.clock then s.enterSafe target else s

/-- The hold made absent by a failing pass (R88, R89). -/
def State.dropHold (s : State) : State := { s with atm := { s.atm with holdStart := none, holdLength := none } }

/-- What has failed where the margin is lost (R88). -/
def marginOf (o2Fits lflFits : Bool) : Margin := if o2Fits then .lfl else if lflFits then .o2 else .both

/-- The INERT to INERTING transition (R88). -/
def State.loseMargin (s : State) (m : Margin) : State :=
  let t := s.setAtm .inerting
  State.report { t with atm := { t.atm with marginLost := true } } srcMarginLost true none (some (.margin m))

/-- The transition of the present state at a pass without a trip condition (R88, R89). -/
def State.atmTransition (s : State) (r : AtmReadings) (demand : Bool) : State :=
  let o2 := s.o2Fits r
  let lfl := s.lflFits r
  match s.atm.state with
  | .air => if demand || !lfl then s.setAtm .inerting else s
  | .inerting =>
    if !demand && lfl then s.enterSafe .air
    else if o2 && lfl then s.runHold .inert
    else s.dropHold
  | .inert =>
    if !demand && lfl then s.enterSafe .air
    else if !(o2 && lfl) then s.loseMargin (marginOf o2 lfl)
    else s
  | .recovering =>
    if o2 && lfl && r.healthy then s.runHold (if demand then .inert else .air) else s.dropHold
  | .tripped => s

/-! ### Duty and flow supervision (R90, R91) -/

/-- The purge duty of a state and an O2 value (R90). -/
def dutyOf (st : AtmState) (o2 : Int) (kp base o2Set : Nat) : Nat :=
  match st with
  | .air => 0
  | .tripped => 1000
  | .inerting | .inert | .recovering =>
    (clampInt 0 1000 ((base : Int) + Int.tdiv ((kp : Int) * (o2 - (o2Set : Int))) 100)).toNat

/-- The duty is computed and written to the PWM's buffer (R90). -/
def State.writeDuty (s : State) (o2 : Int) : State :=
  let d := dutyOf s.atm.state o2 (s.item iKp) (s.item iBase) (s.item iO2Set)
  { s with atm := { s.atm with duty := d }, pwm := { s.pwm with buffer := d } }

/-- Where a pass has high duty, the high-duty interval; below 500 it is absent (R91), and the copied T_nf with it (the
model's choice, log 35). -/
def Atmosphere.supervise (a : Atmosphere) (now : Time) (tNf f fMin : Nat) : Atmosphere :=
  if a.duty < 500 then { a with highDutyStart := none, highDutyLength := none, noFlow := false }
  else
    match a.highDutyStart with
    | none => { a with highDutyStart := some now, highDutyLength := some tNf }
    | some t => if a.highDutyLength.getD 0 ≤ elapsed t now then { a with noFlow := decide (f < fMin) } else a

/-- No-flow supervision: F is read, which marks the latest capture read, and the condition is judged (R91,
R147). -/
def State.superviseFlow (s : State) : State :=
  let f := s.flowRate
  let a := s.atm.supervise s.clock (s.item iTNf) f (s.item iFMin)
  State.report { s with atm := a, flow := { s.flow with unused := false } } srcNoFlow a.noFlow none
    (some (.number f))

/-- The controller's evaluation at a pass completion (R85 to R91); a change of its state makes the Feeder
judge its permit (R73). -/
def State.atmospherePass (s : State) : State :=
  let r := s.readingsNow
  let demand := s.demandNow
  let t := { s with atm := { s.atm with latest := some r, demand := demand } }
  let u :=
    if t.atm.state = .tripped then t
    else if (t.tripNow r demand).any then t.enterTripped (t.tripNow r demand)
    else t.atmTransition r demand
  let v := if u.atm.state = s.atm.state then u else u.judgePermit
  (v.writeDuty r.o2).superviseFlow

/-! ### Requests -/

/-- INERT HOLD ON (R85). -/
def ansHoldOn (s : State) : State × Answer := ({ s with atm := { s.atm with hostHold := true } }, bare .done)

/-- INERT HOLD OFF (R85). -/
def ansHoldOff (s : State) : State × Answer := ({ s with atm := { s.atm with hostHold := false } }, bare .done)

/-- TRIP RESET (R89). -/
def ansTripReset (s : State) : State × Answer :=
  if s.atm.state ≠ .tripped then (s, bare .wrongPhase)
  else
    match s.atm.latest with
    | none => (s, bare .tripConditions)
    | some r =>
      if s.o2Fits r && s.lflFits r && r.healthy then
        let t := s.setAtm .recovering
        (State.judgePermit { t with atm := { t.atm with tripCauses := none } }, bare .done)
      else (s, bare .tripConditions)

end Sys2Proof.Machine
end

