-- ==== Sys2Proof/Machine/Foamtick.lean ====
section
/-! DEFINITION. The Foam Attribution Unit (chapter 5): the attribution tick, breakthrough, and the drain
requests. -/

namespace Sys2Proof.Machine

/-! ### Parts 1 to 4: reading, baseline, drain, debt (R95 to R99) -/

/-- What parts 1 to 4 of a tick fix. -/
structure TickFix where
  foam : Foam
  dEff : Nat
  drained : Nat
  deriving DecidableEq, Repr

/-- The baseline taken where it was absent; an ended drain's account is closed (R96). -/
def Foam.takeBaseline (f : Foam) (v : Nat) : TickFix :=
  if f.drain = .ended then
    { foam := { f with baseline := some v, debt := 0, drain := .noDrain, drainStart := none }, dEff := 0,
      drained := (f.drainStart.map (· - v)).getD 0 }
  else { foam := { f with baseline := some v, debt := 0 }, dEff := 0, drained := 0 }

/-- The increment against the baseline, the debt charged or repaid, the drain tick passed over (R97 to R99). -/
def Foam.follow (f : Foam) (prev v : Nat) : TickFix :=
  let g := { f with baseline := some v }
  if f.drain = .active then { foam := g, dEff := 0, drained := 0 }
  else if v < prev then { foam := { g with debt := min 2000000 (f.debt + (prev - v)) }, dEff := 0, drained := 0 }
  else { foam := { g with debt := f.debt - min (v - prev) f.debt }, dEff := v - prev - min (v - prev) f.debt, drained := 0 }

/-- Parts 1 to 4 of a tick, from the vessel reading or a sensor gap (R95 to R99). -/
def Foam.fix (f : Foam) (reading : Option Nat) : TickFix :=
  match reading with
  | none => { foam := { f with baseline := none }, dEff := 0, drained := 0 }
  | some v =>
    match f.baseline with
    | none => f.takeBaseline v
    | some prev => f.follow prev v

/-! ### Parts 5 to 7: division and totals (R100 to R102) -/

/-- E of a slot's record. -/
def State.expectedAt (s : State) (i : Slot) : Nat := ((s.record i).map Record.expected).getD 0

/-- W: the exact sum of E over the open set (R100). -/
def State.weight (s : State) : Nat := (s.table.openSet.map s.expectedAt).sum

/-- The share of a member: floor(D_eff * E / W) (R101). -/
def State.share (s : State) (dEff : Nat) (i : Slot) : Nat := dEff * s.expectedAt i / s.weight

/-- The remainder of the division (R101). -/
def State.remainder (s : State) (dEff : Nat) : Nat := dEff - (s.table.openSet.map (s.share dEff)).sum

/-- What a member is given: its share, and the remainder for the first member (R101). -/
def State.given (s : State) (dEff : Nat) (i : Slot) : Nat :=
  s.share dEff i + (if s.table.openSet.head? = some i then s.remainder dEff else 0)

/-- A record's attributed foam grown by what it is given (R101). -/
def Record.gain (r : Record) (n : Nat) : Record := { r with foam := satAdd Config.max32 r.foam n }

/-- The tick has positive weight, so that its gain is divided (R101). -/
def State.divides (s : State) : Bool := decide (0 < s.weight)

/-- Parts 5 and 6: the flags of the tick, and the division among the open set (R100, R101). -/
def State.divide (s : State) (gap drain : Bool) (dEff : Nat) : State :=
  s.table.openSet.foldl
    (fun t i =>
      t.modRecord i fun r =>
        ((r.flagIf gap .sensorGap).flagIf drain .drainGap).gain (if s.divides then s.given dEff i else 0)) s

/-- Part 7: the amounts of the tick handed to Totals (R102, R117). -/
def State.tickTotals (s : State) (divided : Bool) (dEff drained : Nat) : State :=
  ((s.addTotal totCaptured dEff).addTotal (if divided then totAttributed else totPool) dEff).addTotal totDrained drained

/-! ### Parts 8 and 9: windows (R103, R104, R106) -/

/-- The foam outcome of a closing window (R104). -/
def Record.foamOutcome (r : Record) (gammaMin : Nat) : Record :=
  if r.expected = 0 then { r with gamma := none, foamVerdict := some .noFoam }
  else
    let g := permille r.foam r.expected
    ({ r with gamma := some g, foamVerdict := some (if gammaMin ≤ g then .adequate else .low) }).flagIf
      (ratioExceeds r.foam r.expected) .ratioSaturated

/-- One tick of a window (R103). -/
def Record.countDown (r : Record) : Record := { r with ticks := r.ticks.map (· - 1) }

/-- Whether a window has reached 0 ticks (R103). -/
def State.windowDone (s : State) (i : Slot) : Bool := (s.record i).any fun r => r.ticks == some 0

/-- The closing of one window (R18, R104). -/
def State.closeWindow (s : State) (i : Slot) : State :=
  (s.modRecord i fun r => r.foamOutcome (s.item iGammaMin)).closeSlot i

/-- Part 8: every member of S counts down, then those at 0 close in the set's order (R103, R104). -/
def State.countWindows (s : State) : State :=
  let t := s.modRecords s.table.openSet Record.countDown
  (t.table.openSet.filter t.windowDone).foldl State.closeWindow t

/-- Part 9: the members still open gain BREAKTHROUGH where it holds (R106). -/
def State.markBreakthrough (s : State) : State :=
  if s.foam.breakthrough then s.modRecords s.table.openSet (Record.flag .breakthrough) else s

/-! ### The unit's steps -/

/-- What a tick reads of the pass that completes, as the channel records hold it (R95, R106). -/
def State.readingsOfPass (s : State) : TickReadings :=
  { vessel := (s.channel 10).vesselReading, outletStatus := (s.channel 11).status, outlet := (s.channel 11).value }

/-- The breakthrough condition from the B3 status and value of a pass (R106). -/
def State.breakthroughAt (s : State) (x : TickReadings) : Bool :=
  x.outletStatus == .ok && decide ((s.item iLBreak : Int) < x.outlet)

/-- Breakthrough is judged from the B3 value of a pass and BREAKTHROUGH reported (R106). -/
def State.judgeBreakthrough (s : State) (x : TickReadings) : State :=
  State.report { s with foam := { s.foam with breakthrough := s.breakthroughAt x } } srcBreakthrough (s.breakthroughAt x) none
    (some (.number x.outlet))

/-- Parts 1 to 7 of a tick on a vessel reading, none in a sensor gap (R94, R95). -/
def State.tickGain (s : State) (reading : Option Nat) : State :=
  let x := s.foam.fix reading
  ((State.divide { s with foam := x.foam } reading.isNone (s.foam.drain == .active) x.dEff)).tickTotals s.divides x.dEff
    x.drained

/-- The attribution tick (R94) on the readings of its pass: breakthrough judged at its start, the nine parts, and
the Feeder's judgement where a closing has changed the open-set count (R73). -/
def State.tick (s : State) (x : TickReadings) : State :=
  let t := ((s.judgeBreakthrough x).tickGain x.vessel).countWindows.markBreakthrough
  let u := { t with foam := { t.foam with tickDue := none } }
  if u.table.openSet.length = s.table.openSet.length then u else u.judgePermit

/-- The tick that is due is taken; without one nothing happens (R94). -/
def State.tickStep (s : State) : State :=
  match s.foam.tickDue with
  | none => s
  | some x => s.tick x

/-- The unit's part of a pass completion: at a marked pass the tick is taken here unless it is left as a step of
its own (log 4); an ordinary pass judges breakthrough alone (R94, R106, R125). -/
def State.attributionPass (s : State) (marked apart : Bool) : State :=
  if marked then (if apart then s else s.tickStep) else s.judgeBreakthrough s.readingsOfPass

/-! ### Requests -/

/-- DRAIN BEGIN (R107). -/
def ansDrainBegin (s : State) : State × Answer :=
  match s.foam.drain with
  | .active => (s, bare .wrongPhase)
  | .noDrain =>
    ({ s with foam := { s.foam with drain := .active, drainStart := s.foam.baseline } }, bare .done)
  | .ended => ({ s with foam := { s.foam with drain := .active } }, bare .done)

/-- DRAIN END (R108). -/
def ansDrainEnd (s : State) : State × Answer :=
  match s.foam.drain with
  | .active => ({ s with foam := { s.foam with drain := .ended, baseline := none } }, bare .done)
  | _ => (s, bare .wrongPhase)

end Sys2Proof.Machine
end

