-- ==== Sys2Proof/Machine/Scanner.lean ====
section
/-! DEFINITION. The Signal Scanner's steps (R122 to R136): group A conversions, group B pass completions
handed to their readers, CHANNEL_FAULT, and the channel requests. -/

namespace Sys2Proof.Machine

/-! ### CHANNEL_FAULT (R131) -/

/-- The counted channels: group A in the cycle, B0 to B3, the oil cups of fitted stations (R131). -/
def State.counted (s : State) (c : ChannelNo) : Bool :=
  if c.val < 8 then decide (c.val < 2 * s.fittedCount)
  else if c.val < 12 then true
  else decide (c.val - 12 < s.fittedCount)

/-- The lowest-numbered counted channel in fault (R131). -/
def State.firstFault (s : State) : Option ChannelNo :=
  (List.finRange 16).find? fun c => s.counted c && (s.channel c).faulted

/-- The side of a fault (R131). -/
def Channel.side (c : Channel) : Side := if c.status == .faultHigh then .high else .low

/-- CHANNEL_FAULT is judged (R131). -/
def State.judgeChannels (s : State) : State :=
  s.report srcChannelFault s.firstFault.isSome (s.firstFault.map Fin.val)
    (s.firstFault.map fun c => .side (s.channel c).side)

/-! ### Group A (R122, R123) -/

/-- The state with a channel record changed. -/
def State.modChannel (s : State) (c : ChannelNo) (f : Channel → Channel) : State :=
  { s with channels := s.channels.set c (f s.channels[c]) }

/-- The group A channel converted after one: the next in index order, A0 after the last of the cycle (R122). -/
def State.nextInCycle (s : State) (c : Fin 8) : Fin 8 :=
  if h : c.val + 1 < 2 * s.fittedCount ∧ c.val + 1 < 8 then ⟨c.val + 1, h.2⟩ else 0

/-- The channel a group A conversion completes: the one in conversion, A0 where that lies outside the
cycle. -/
def State.convertedA (s : State) : Fin 8 := if s.scan.next.val < 2 * s.fittedCount then s.scan.next else 0

/-- The station that owns a group A channel judges its test (R27, R123). -/
def State.stationConverted (s : State) (c : Fin 8) : State :=
  let n : StationNo := ⟨c.val / 2, by omega⟩
  if c.val % 2 = 0 then s.scaleConverted n else s.suctionConverted n

/-- The completion of a group A conversion (R123): the record, CHANNEL_FAULT, then the owning station (the order
of these two is the model's, log 31); the next conversion of the cycle completes 2 ms later (R122). The reading is
the level of its input (log 6). -/
def State.groupAConverted (s : State) (r : Raw) : State :=
  let c := s.convertedA
  let t := s.modChannel ⟨c.val, by omega⟩ fun x => x.convert r
  let u := { t with
    scan := { t.scan with next := s.nextInCycle c, due := after s.clock 2 }
    pins := { t.pins with analog := t.pins.analog.set c.val r (by omega) } }
  u.judgeChannels.stationConverted c

/-! ### Group B (R124, R125) -/

/-- The eight channel records take the raw readings of the pass, B0 first (R125). -/
def State.takePass (s : State) (raw : Vector Raw 8) : State :=
  (List.finRange 8).foldl (fun t k => t.modChannel ⟨8 + k.val, by omega⟩ fun x => x.convert raw[k]) s

/-- The input levels after a pass whose completion gives `raw`: a reading that the pass itself sampled says nothing of
the level now, which stands; a reading it did not sample is the level of its input (R124, log 6). -/
def Pins.withPass (p : Pins) (held : List Raw) (raw : Vector Raw 8) : Pins :=
  { p with
    analog := (List.finRange 8).foldl
      (fun v k => if held[k.val]? = some raw[k] then v else v.set (8 + k.val) raw[k] (by omega)) p.analog }

/-- The fitted stations judge their rings, since their oil cups have converted (R27, R125). -/
def State.stationsPass (s : State) : State :=
  (List.finRange 4).foldl (fun t n => if t.fitted n then t.judgeRings n else t) s

/-- A reader takes the completion of a pass that is marked or not (R125). -/
def State.readPass (marked apart : Bool) (s : State) : PassReader → State
  | .atmosphere => s.atmospherePass
  | .attribution => s.attributionPass marked apart
  | .feeder => s.feederPass
  | .stations => s.stationsPass

/-- The order in which the readers take a completion: the ones named first in their order, then the others
in the order of R125 (log 3). -/
def readerOrder (first : List PassReader) : List PassReader :=
  first.dedup ++ ([.atmosphere, .attribution, .feeder, .stations] : List PassReader).filter fun r => !first.contains r

/-- The Scanner's part of a pass completion: the eight records; where the pass was marked, the tick that is due
with what it reads of this pass; CHANNEL_FAULT, before the readers take the completion (R95, R106, R125, R131,
R141; the place of CHANNEL_FAULT is the model's, log 31). -/
def State.passConverted (s : State) (p : Pass) (raw : Vector Raw 8) : State :=
  let t := s.takePass raw
  State.judgeChannels { t with
    pins := t.pins.withPass p.held raw
    scan := { t.scan with pass := none }
    foam := { t.foam with tickDue := if p.marked then some t.readingsOfPass else t.foam.tickDue } }

/-- The completion of the pass in progress, handed to its readers; without a pass in progress no completion
occurs (R124, R125). -/
def State.passCompleted (s : State) (raw : Vector Raw 8) (first : List PassReader) (apart : Bool) : State :=
  match s.scan.pass with
  | none => s
  | some p => (readerOrder first).foldl (State.readPass p.marked apart) (s.passConverted p raw)

/-! ### Requests (R132, R134) -/

/-- SET CHANNEL (R132). -/
def ansSetChannel (channel : Byte) (zero span low high band : Word) (s : State) : State × Answer :=
  match channelOf channel with
  | none => (s, bare .badField)
  | some c =>
    let u := takenSetup zero.toInt span.toInt low.toInt high.toInt band.toNat
    (s.modChannel c fun x => x.configure u,
      doneClamped
        (decide (u.zero ≠ zero.toInt ∨ u.span ≠ span.toInt ∨ u.low ≠ low.toInt ∨ u.high ≠ high.toInt ∨ u.band ≠ band.toNat))
        (int4 u.zero ++ int4 u.span ++ int4 u.low ++ int4 u.high ++ num4 u.band))

/-- The content of READ CHANNEL in the order of R134. -/
def Channel.content (c : Channel) (number : Nat) : List Byte :=
  char1 number ++ char1 c.status.code ++ optWord (c.raw.map (·.zeroExtend 32)) ++ int4 c.value ++ ringChars c.ring
    ++ markByte c.settled ++ int4 c.zero ++ int4 c.span ++ int4 c.low ++ int4 c.high ++ num4 c.band

/-- READ CHANNEL (R134). -/
def ansReadChannel (channel : Byte) (s : State) : State × Answer :=
  match channelOf channel with
  | none => (s, bare .badField)
  | some c => (s, doneWith ((s.channel c).content c.val))

end Sys2Proof.Machine
end

