-- ==== Sys2Proof/Machine/Timing.lean ====
section
/-! DEFINITION. The Timing Unit (chapter 8): the atmosphere period timer and postscaler, the purge PWM, and
the passing of a millisecond, at which the part queues the events that fall due (log 1). -/

namespace Sys2Proof.Machine

/-! ### The atmosphere period (R139 to R141) -/

/-- An expiry of the atmosphere period timer: its next deadline, the postscaler, the start of a pass (R139,
R141, R124). -/
def State.periodExpire (s : State) : State :=
  let marked := decide (s.period.postscaler + 1 = s.item iK)
  { s with
    period := { nextDeadline := after s.clock (s.item iPa), lastExpiry := some s.clock,
                postscaler := if marked then 0 else s.period.postscaler + 1 }
    scan := { s.scan with pass := some { started := s.clock, marked := marked, held := [] } } }

/-- The expiry as an event: taken when the line clock is at the deadline (R139). -/
def State.periodExpired (s : State) : State := if s.clock = s.period.nextDeadline then s.periodExpire else s

/-! ### The purge PWM (R150) -/

/-- The on-time of the running period: floor(active duty * period length / 1000) ms (R150). -/
def Pwm.onTime (p : Pwm) : Nat := p.active * p.length / 1000

/-- The next period: it starts now, with the buffered duty and the present T_pwm; PURGE is on where it has
an on-time (R150, R151). -/
def Pwm.restart (p : Pwm) (now : Time) (tPwm : Nat) : Pwm :=
  { start := now, length := tPwm, active := p.buffer, buffer := p.buffer, purge := decide (0 < p.buffer * tPwm / 1000) }

/-- The end of a PWM period, when its length has elapsed (R150). -/
def State.pwmPeriodEnded (s : State) : State :=
  if elapsed s.pwm.start s.clock = s.pwm.length then { s with pwm := s.pwm.restart s.clock (s.item iTPwm) } else s

/-- The end of the on-time within a period: PURGE goes off (R150). -/
def State.onTimeEnded (s : State) : State :=
  if s.pwm.purge ∧ elapsed s.pwm.start s.clock = s.pwm.onTime ∧ s.pwm.onTime < s.pwm.length then
    { s with pwm := { s.pwm with purge := false } }
  else s

/-! ### The passing of a millisecond (log 1) -/

/-- The group B converter in a millisecond: 2, 4, ... 16 ms after its start a pass holds one more raw reading
(R124). -/
def Pass.sample (p : Pass) (now : Time) (analog : Vector Raw 16) : Pass :=
  if h : p.held.length < 8 then
    if elapsed p.started now = 2 * (p.held.length + 1) then
      { p with held := p.held ++ [analog[8 + p.held.length]] }
    else p
  else p

/-- The expiry event of a station's state (R143). -/
def stationExpiry (n : StationNo) (pair : BitVec 2) : StationState → Option Instr
  | .clamping => some (.clampTimeout n)
  | .taring => some (.scaleUnsettled n)
  | .piercing => some (.tPierceExpiry n)
  | .evacuating => some (.tEvacExpiry n pair)
  | .riseTest => some (.tRiseExpiry n)
  | .drainingOil => some (.tDrainExpiry n)
  | .weighing => some (.weighingSettleTimeout n)
  | .abortWeighing => some (.weighingSettleTimeout n)
  | .idle => none
  | .awaitUnclamp => none
  | .faulted => none

/-- The events of a station that are due at the present reading (R143, R144). -/
def State.stationDue (s : State) (n : StationNo) : List Instr :=
  (if s.due (s.station n).deadline then (stationExpiry n s.pins.analyser[n] (s.station n).state).toList else [])
    ++ (if s.due (s.station n).probeDeadline then [.probe n s.pins.analyser[n]] else [])

/-- The expiry event of a Feeder state (R143). -/
def feederExpiry : FeederState → Option Instr
  | .opening => some .tOpenExpiry
  | .passing => some .tPassExpiry
  | .closing => some .tCloseExpiry
  | .idle => none
  | .waitPermit => none
  | .jammed => none

/-- The raw readings a complete pass holds. -/
def Pass.raw (p : Pass) : Vector Raw 8 := Vector.ofFn fun k => p.held.getD k.val 0

/-- The events of the converters that are due (R122, R124). -/
def State.scanDue (s : State) : List Instr :=
  (if s.clock = s.scan.due then [.groupAConversion (s.pins.analog[s.convertedA.val]'(by omega))] else [])
    ++ (match s.scan.pass with
      | some p =>
        if p.held.length = 8 then
          [.groupBPassCompletion p.raw (Config.passOrder s.free) (Config.tickApart s.free)]
        else []
      | none => [])

/-- Every event that is due at the present reading. -/
def State.dueEvents (s : State) : List Instr :=
  (List.finRange 4).flatMap s.stationDue
    ++ (if s.due s.feeder.deadline then (feederExpiry s.feeder.state).toList else [])
    ++ s.scanDue
    ++ (if s.clock = s.period.nextDeadline then [.atmospherePeriodExpiry] else [])
    ++ (if elapsed s.pwm.start s.clock = s.pwm.length then [.pwmPeriodEnd] else [])
    ++ (if s.pwm.purge ∧ elapsed s.pwm.start s.clock = s.pwm.onTime ∧ s.pwm.onTime < s.pwm.length then [.purgeOnTimeEnd]
        else [])

/-- Events put in an order that nothing fixes: each falls at a place the free value gives (log 2). -/
def arrange (free : Nat) : List Instr → List Instr
  | [] => []
  | [e] => [e]
  | e :: rest => (arrange (free + 1) rest).insertIdx (Config.arrivalPlace free % (rest.length + 1)) e

/-- One millisecond: the line clock advances (R137), the converters sample, and the due events are queued. -/
def State.millisecond (s : State) : State :=
  let t := { s with clock := s.clock + 1 }
  let u := { t with scan := { t.scan with pass := t.scan.pass.map fun p => Pass.sample p t.clock t.pins.analog } }
  { u with free := u.free + u.dueEvents.length + 1, pending := arrange u.free u.dueEvents }

/-- What the part does on an empty queue: a tick that is still due is queued first, in the same millisecond
(R94); otherwise a millisecond passes (log 1). -/
def State.idle (s : State) : State :=
  if s.foam.tickDue.isSome then { s with pending := [.attributionTick] } else s.millisecond

end Sys2Proof.Machine
end

