-- ==== Sys2Proof/Machine/Clocked.lean ====
section
/-! DEFINITION. The meanings of the flow meter's edges, the converters' completions and the Timing Unit's events. -/

namespace Sys2Proof.Machine

/-- A rising edge of FLOW (R147). -/
def execFlowEdge (s : State) : Host.Outcome State Fault Refusal :=
  .next s.flowEdge

/-- The expiry of the atmosphere period timer (R139, R141). -/
def execAtmospherePeriodExpiry (s : State) : Host.Outcome State Fault Refusal :=
  .next s.periodExpired

/-- The completion of a group A conversion (R123). -/
def execGroupAConversion (raw : Raw) (s : State) : Host.Outcome State Fault Refusal :=
  .next (s.groupAConverted raw)

/-- The completion of a group B pass (R125). -/
def execGroupBPassCompletion (raw : Vector Raw 8) (first : List PassReader) (tickApart : Bool) (s : State) :
    Host.Outcome State Fault Refusal :=
  .next (s.passCompleted raw first tickApart)

/-- The attribution tick, as a step of its own (R94). -/
def execAttributionTick (s : State) : Host.Outcome State Fault Refusal :=
  .next s.tickStep

/-- The end of a PWM period (R150). -/
def execPwmPeriodEnd (s : State) : Host.Outcome State Fault Refusal :=
  .next s.pwmPeriodEnded

/-- The end of the on-time of a PWM period (R150). -/
def execPurgeOnTimeEnd (s : State) : Host.Outcome State Fault Refusal :=
  .next s.onTimeEnded

end Sys2Proof.Machine
end

