-- ==== Sys2Proof/Machine/Lineops.lean ====
section
/-! DEFINITION. Line states (chapter 10): the line requests, STOP and its event, EMERGENCY STOP, CLEAR LINE,
and device reset. -/

namespace Sys2Proof.Machine

/-! ### STOP (R169 to R171) -/

/-- The line state replaced; the Feeder judges its permit at a change (R73, R166). -/
def State.setLine (s : State) (l : LineState) : State :=
  State.judgePermit { s with line := { s.line with state := l } }

/-- The entry to STOP: the line state, then the STOP event at every fitted station and at the Feeder (R171). -/
def State.enterStop (s : State) : State :=
  let t := { s with line := { s.line with state := .stop } }
  (((List.finRange 4).foldl State.stationStop t).feederHalt .stop).judgePermit

/-- A stop taken in any line state; in STOP already nothing is handed (R169, R170). -/
def State.stopLine (s : State) : State := if s.line.state = .stop then s else s.enterStop

/-- The input EMERGENCY STOP becoming asserted: the notice with the line state it is taken in, then the stop
(R170). -/
def State.emergencyEvent (s : State) : State :=
  (State.raise { s with line := { s.line with emergencyMark := true } } srcEmergency none
    (some (.line s.line.state))).stopLine

/-- The level of EMERGENCY STOP going to asserted; an event where the block's mark says not asserted (R166,
R170). -/
def State.emergencyOn (s : State) : State :=
  let t := { s with pins := { s.pins with emergencyStop := true } }
  if s.line.emergencyMark then t else t.emergencyEvent

/-- The release of EMERGENCY STOP updates the input mark alone (R170). -/
def State.emergencyOff (s : State) : State :=
  { s with pins := { s.pins with emergencyStop := false }, line := { s.line with emergencyMark := false } }

/-! ### Line requests (R167 to R172) -/

/-- A line request's answer carries the line state after the step (R166). -/
def lineAnswer (st : Status) (s : State) : State × Answer :=
  (s, { status := st, clamped := false, content := char1 s.line.state.code })

/-- LINE RUN (R167). -/
def ansLineRun (s : State) : State × Answer :=
  match s.line.state with
  | .initial | .hold =>
    if s.pins.emergencyStop then lineAnswer .emergencyActive s else lineAnswer .done (s.setLine .run)
  | .run | .stop => lineAnswer .lineState s

/-- LINE HOLD (R168). -/
def ansLineHold (s : State) : State × Answer :=
  match s.line.state with
  | .run => lineAnswer .done (s.setLine .hold)
  | .initial | .hold | .stop => lineAnswer .lineState s

/-- LINE STOP (R169). -/
def ansLineStop (s : State) : State × Answer := lineAnswer .done s.stopLine

/-- LINE RESUME (R172). -/
def ansLineResume (s : State) : State × Answer :=
  match s.line.state with
  | .stop =>
    if s.pins.emergencyStop then lineAnswer .emergencyActive s else lineAnswer .done (s.setLine .hold)
  | .initial | .run | .hold => lineAnswer .lineState s

/-! ### CLEAR LINE (R24, R54, R175, R176) -/

/-- The block preconditions: every fitted station IDLE or FAULTED, the Feeder IDLE (R175). -/
def State.clearable (s : State) : Bool :=
  (List.finRange 4).all (fun n => !s.fitted n || (s.station n).state == .idle || (s.station n).state == .faulted)
    && s.feeder.state == .idle

/-- A station after CLEAR LINE: a FAULTED one is IDLE, the attempt's readings and marks are as after reset,
the receiver record and the copied limits are kept (R54). -/
def Station.clear (x : Station) : Station :=
  { stationReset with
    state := if x.state = .faulted then .idle else x.state
    bound := x.bound
    receiver := x.receiver
    deadline := x.deadline
    copyTarget := x.copyTarget
    copyDwell := x.copyDwell
    copyFill := x.copyFill
    copyRise := x.copyRise }

/-- The step of a CLEAR LINE that is taken (R176). -/
def State.clearLine (s : State) : State :=
  State.judgeNearlyFull { s with
    table := tableReset
    stations := s.stations.map Station.clear
    foam := { s.foam with baseline := none, debt := 0 }
    line := { s.line with state := .initial } }

/-- CLEAR LINE (R175, R176). -/
def ansClearLine (s : State) : State × Answer :=
  if s.line.state = .initial ∨ s.line.state = .stop then
    if s.clearable then (s.clearLine, bare .done) else (s, bare .busy)
  else (s, bare .lineState)

/-! ### Device reset (R166, R177) -/

/-- The address sampled from the ADDR strap: 0 and 31 are taken as 1 (R177). -/
def sampledAddress (addr : BitVec 5) : BitVec 5 := if addr = 0 ∨ addr = 31 then 1 else addr

/-- The reading of EMERGENCY STOP in the first step after a device reset, as the command that step takes: an
asserted input is taken as becoming asserted, else there is nothing to take (R166, R170, log 10). -/
def Pins.firstReading (p : Pins) : List Instr := if p.emergencyStop then [.emergencyStopAsserted] else []

/-- Device reset: the straps are sampled and every block returns to its reset values (R166, R177). The pins and
the counter of free values are the outside's and the model's own (logs 8, 21); the commands that wait stay waiting
(log 25), behind the first step's reading of EMERGENCY STOP (log 10). -/
def State.deviceReset (s : State) (addr : BitVec 5) (rate stations : Bool) : State :=
  { State.fresh (sampledAddress addr) rate stations with
    pins := s.pins, free := s.free, pending := s.pins.firstReading ++ s.pending }

end Sys2Proof.Machine
end

