-- ==== Sys2Proof/Machine/Field.lean ====
section
/-! DEFINITION. The meanings of the events of the stations, the feed gate and the emergency stop. -/

namespace Sys2Proof.Machine

/-- CLAMP CLOSED n becomes true (R31, R54). -/
def execClampClosedTrue (n : Fin 4) (s : State) : Host.Outcome State Fault Refusal :=
  .next (s.clampClosed n)

/-- CLAMP CLOSED n becomes false (R42, R43). -/
def execClampOpened (n : Fin 4) (s : State) : Host.Outcome State Fault Refusal :=
  .next (s.clampOpen n)

/-- The T_clamp expiry in CLAMPING (R31, R48); an expiry that is not due is none (R143). -/
def execClampTimeout (n : Fin 4) (s : State) : Host.Outcome State Fault Refusal :=
  .next (if s.expires n .clamping then s.faultUnpierced n .clampTimeout else s)

/-- The T_settle expiry in TARING (R32, R48). -/
def execScaleUnsettled (n : Fin 4) (s : State) : Host.Outcome State Fault Refusal :=
  .next (if s.expires n .taring then s.faultUnpierced n .scaleUnsettled else s)

/-- The T_pierce expiry (R33, R34). -/
def execTPierceExpiry (n : Fin 4) (s : State) : Host.Outcome State Fault Refusal :=
  .next (s.pierceExpired n)

/-- The probe deadline passes, the ANALYSER pair standing at `pair` (R35, R36, R144). -/
def execProbe (n : Fin 4) (pair : BitVec 2) (s : State) : Host.Outcome State Fault Refusal :=
  .next (s.probeExpired n pair)

/-- The T_evac expiry, with the probe first where it is still to be taken (R35, R38). -/
def execTEvacExpiry (n : Fin 4) (pair : BitVec 2) (s : State) : Host.Outcome State Fault Refusal :=
  .next (s.evacExpired n pair)

/-- The T_rise expiry (R39). -/
def execTRiseExpiry (n : Fin 4) (s : State) : Host.Outcome State Fault Refusal :=
  .next (s.riseExpired n)

/-- The T_drain expiry (R40). -/
def execTDrainExpiry (n : Fin 4) (s : State) : Host.Outcome State Fault Refusal :=
  .next (s.drainExpired n)

/-- The T_settle expiry in WEIGHING or ABORT_WEIGHING (R56, R62). -/
def execWeighingSettleTimeout (n : Fin 4) (s : State) : Host.Outcome State Fault Refusal :=
  .next (s.settleExpired n)

/-- GATE CLOSED becomes false (R74). -/
def execGateClosedFalse (s : State) : Host.Outcome State Fault Refusal :=
  .next s.gateOpened

/-- GATE CLOSED becomes true (R77). -/
def execGateClosedTrue (s : State) : Host.Outcome State Fault Refusal :=
  .next s.gateShut

/-- The T_open expiry (R74). -/
def execTOpenExpiry (s : State) : Host.Outcome State Fault Refusal :=
  .next s.openExpired

/-- The T_pass expiry (R75). -/
def execTPassExpiry (s : State) : Host.Outcome State Fault Refusal :=
  .next s.passExpired

/-- The T_close expiry (R77). -/
def execTCloseExpiry (s : State) : Host.Outcome State Fault Refusal :=
  .next s.closeExpired

/-- A broken-to-clear edge of BEAM (R76, R146). -/
def execFeedCapture (s : State) : Host.Outcome State Fault Refusal :=
  .next s.beamCleared

/-- SHREDDER RUNNING changes to `running` (R73). -/
def execShredderRunningChange (running : Bool) (s : State) : Host.Outcome State Fault Refusal :=
  .next (s.shredderRuns running)

/-- EMERGENCY STOP becomes asserted (R170, R171). -/
def execEmergencyStopAsserted (s : State) : Host.Outcome State Fault Refusal :=
  .next s.emergencyOn

/-- EMERGENCY STOP becomes released (R170). -/
def execEmergencyStopReleased (s : State) : Host.Outcome State Fault Refusal :=
  .next s.emergencyOff

end Sys2Proof.Machine
end

