-- ==== Sys2Proof/Machine/Settings.lean ====
section
/-! DEFINITION. Configuration and status (R84, R189, R190): SET CONFIG with its clamps and effects, READ
CONFIG, READ STATUS. -/

namespace Sys2Proof.Machine

/-! ### The order of the limits (R84) -/

/-- A value clamped into the interval the order allows, given the other items as they stand (R84). -/
def State.orderClamp (s : State) (i : Item) (v : Nat) : Nat :=
  if i = iO2Set then min v (s.item iLInert - 1)
  else if i = iLInert then min (max v (s.item iO2Set + 1)) (s.item iLTrip - 1)
  else if i = iLTrip then max v (s.item iLInert + 1)
  else if i = iLFeed then min v (s.item iLTripLFL - 1)
  else if i = iLTripLFL then max v (s.item iLFeed + 1)
  else v

/-- The value a SET CONFIG takes, in the unit of the request: clamped to the range, then by order (R84,
R189). -/
def State.takenValue (s : State) (i : Item) (v : Nat) : Nat :=
  s.orderClamp i (clampNat (itemRow i).lo (itemRow i).hi v)

/-- The item stored as held (R189). -/
def State.setItem (s : State) (i : Item) (v : Nat) : State :=
  { s with settings := s.settings.set i (v * (itemRow i).scale) }

/-- The reading a pending expiry is counted from: the last expiry, before the first the reading of the reset, 0
(R140). -/
def Period.base (p : Period) : Time := p.lastExpiry.getD 0

/-- A new Pa against the pending expiry (R140). Where an expiry was taken first at this reading, the deadline it
fixed stands; else the deadline is counted from the last expiry, and where it is already reached the expiry falls
at once, as the next event (log 12). -/
def State.newPeriod (s : State) : State :=
  if s.period.lastExpiry = some s.clock then s
  else if s.item iPa ≤ elapsed s.period.base s.clock then s.periodExpire
  else { s with period := { s.period with nextDeadline := after s.period.base (s.item iPa) } }

/-- What taking an item does beside storing it: Pa against its timer (R140), K to the postscaler (R142), the
divider to the FLOW channel (R149), V_high to the permit and to VESSEL_HIGH (R73, R82). -/
def State.itemEffect (s : State) (i : Item) : State :=
  if i = iPa then s.newPeriod
  else if i = iK then { s with period := { s.period with postscaler := 0 } }
  else if i = iDivider then
    { s with flow := { s.flow with edges := 0, latest := none, previous := none, unused := false } }
  else if i = iVHigh then s.judgeVessel.judgePermit
  else s

/-- The divider takes 1, 4 and 16 alone (R149). -/
def dividerLegal (i : Item) (v : Nat) : Bool := i != iDivider || v == 1 || v == 4 || v == 16

/-- SET CONFIG (R189). -/
def ansSetConfig (item : Byte) (value : Word) (s : State) : State × Answer :=
  match itemOf item with
  | none => (s, bare .badField)
  | some i =>
    if dividerLegal i value.toNat then
      let v := s.takenValue i value.toNat
      ((s.setItem i v).itemEffect i,
        doneClamped (decide (v ≠ value.toNat)) (char1 (i.val + 1) ++ num4 v))
    else (s, bare .badField)

/-- The content of READ CONFIG: the item values in the unit of requests, the source levels, the mask level
and the attention level (R189). -/
def State.configContent (s : State) : List Byte :=
  (List.finRange 44).flatMap (fun i => num4 (s.item i / (itemRow i).scale))
    ++ allSources.map (fun i => BitVec.ofNat 8 (levelCode s.arb.sources[i].level))
    ++ char1 s.arb.mask.val ++ char1 s.arb.attention.val

/-- READ CONFIG (R189). -/
def ansReadConfig (s : State) : State × Answer := (s, doneWith s.configContent)

/-- The content of READ STATUS in the order of R190. -/
def State.statusContent (s : State) : List Byte :=
  char1 s.line.state.code ++ markByte s.pins.emergencyStop
    ++ char1 s.atm.state.code ++ optInt (s.atm.latest.map AtmReadings.o2) ++ optInt (s.atm.latest.map AtmReadings.lfl)
    ++ num4 s.atm.duty ++ num4 s.pwm.active
    ++ char1 s.feeder.state.code ++ char1 ((s.feeder.jam.map JamCause.code).getD 0) ++ optWord s.feeder.lastFeed
    ++ markByte s.pins.gateClosed ++ markByte s.pins.beam ++ markByte s.pins.shredderRunning
    ++ s.stations.toList.flatMap (fun x => char1 x.state.code)
    ++ num4 s.flowRate ++ num4 s.flow.overwrites
    ++ int4 (s.channel 10).value ++ num4 s.foam.debt ++ num4 s.totals[totPool].value ++ char1 s.foam.drain.code
    ++ char1 s.recordCount ++ char1 s.table.shredQueue.length ++ char1 s.table.openSet.length
    ++ char1 s.arb.queue.length
    ++ num4 s.link.good ++ num4 s.link.notMine ++ num4 s.link.framingErrors ++ num4 s.link.gapErrors
    ++ num4 s.link.checkErrors ++ word4 s.clock

/-- READ STATUS (R190). -/
def ansReadStatus (s : State) : State × Answer := (s, doneWith s.statusContent)

end Sys2Proof.Machine
end

