-- ==== Sys2Proof/Machine/Link.lean ====
section
/-! DEFINITION. The Link Port and the Request Handler (chapter 11): characters, frames and their check,
reception errors, requests taken from frames, broadcasts and replies. -/

namespace Sys2Proof.Machine

/-! ### The receiver -/

/-- The port leaves the frame it was receiving: buffer empty, gap deadline absent (R177, R182). -/
def Link.leave (l : Link) (rx : RxState) : Link :=
  { l with rx, buffer := [], checkHigh := none, expected := none, gap := false }

/-- A new frame begins, addressed to this part or broadcast (R179). -/
def Link.begin (l : Link) (broadcast : Bool) : Link :=
  { l.leave .receiving with broadcast, gap := true }

/-- A link counter grows by 1, saturating (R183). -/
def count16 (n : Nat) : Nat := satAdd Config.max16 n 1

/-- LINK_ERROR with the error kind as value (R182). -/
def State.linkError (s : State) (e : LinkError) : State := s.raise srcLinkError none (some (.link e))

/-- A framing error: counted in every state but REPLYING; a frame under way is abandoned (R179, R182). -/
def State.framingError (s : State) : State :=
  if s.link.rx = .replying then s
  else
    let l := { s.link with framingErrors := count16 s.link.framingErrors }
    State.linkError { s with link := if s.link.rx = .receiving then l.leave .hunt else l } .framing

/-- The gap deadline passes with no character begun (R182). -/
def State.gapError (s : State) : State :=
  if s.link.rx = .receiving ∧ s.link.gap then
    State.linkError { s with link := Link.leave { s.link with gapErrors := count16 s.link.gapErrors } .hunt } .gap
  else s

/-- A check error of the frame under way (R180, R182). -/
def State.checkError (s : State) (c : CheckCause) : State :=
  if s.link.rx = .receiving then
    let rx := match c with
      | .mismatch => .hunt
      | .overlong => .skipping
    let l := { s.link with checkErrors := count16 s.link.checkErrors }
    State.linkError { s with link := l.leave rx } .check
  else s

/-- Whether an address character names this part or every part (R178, R179). -/
def Link.named (l : Link) (a : Byte) : Bool := a.toNat == l.address.toNat || a.toNat == 31

/-- An address character outside REPLYING, the frame under way already abandoned (R179). -/
def Link.hear (l : Link) (a : Byte) : Link :=
  if l.named a then l.begin (a.toNat == 31) else { l.leave .skipping with notMine := count16 l.notMine }

/-- An address character (R179): in RECEIVING the frame under way is abandoned as short first (R182). -/
def State.heardAddress (s : State) (a : Byte) : State :=
  match s.link.rx with
  | .replying => s
  | .hunt | .skipping => { s with link := s.link.hear a }
  | .receiving =>
    let t := State.linkError { s with link := { s.link with gapErrors := count16 s.link.gapErrors } } .short
    { t with link := t.link.hear a }

/-! ### Replies and requests (R184 to R187) -/

/-- The port in the step that completes a good frame addressed to this part: counted good, a reply due (R183,
R185). -/
def Link.accept (l : Link) : Link := { l.leave .replying with good := count16 l.good }

/-- A request taken: the frame is counted, the owner answers, and its answer fixes the reply (R184, R185). -/
def State.takeRequest (s : State) (kind tag : Byte) (owner : State → State × Answer) : State :=
  let r := owner { s with link := s.link.accept }
  { r.1 with link := { r.1.link with reply := some { kind, tag, body := r.2.body } } }

/-- A request as its frame's last character completes it; while the part owes or sends a reply it receives
nothing, and the frame is lost without being counted (R185, log 7). -/
def State.request (s : State) (kind tag : Byte) (owner : State → State × Answer) : State :=
  if s.replying then s else s.takeRequest kind tag owner

/-- The broadcast LINE STOP or LINE HOLD taken: counted good, no reply (R166, R186). -/
def State.takeBroadcast (s : State) (owner : State → State × Answer) : State :=
  (owner { s with link := { s.link.leave .hunt with good := count16 s.link.good } }).1

/-- A broadcast LINE STOP or LINE HOLD as its frame's last character completes it; lost while the part owes
or sends a reply (R185). -/
def State.broadcast (s : State) (owner : State → State × Answer) : State :=
  if s.replying then s else s.takeBroadcast owner

/-- Any other broadcast: ignored and counted not-mine (R186). -/
def State.ignoreBroadcast (s : State) : State :=
  { s with link := { s.link.leave .hunt with notMine := count16 s.link.notMine } }

/-! ### Frames (R180, R184, R191) -/

/-- A number of up to four characters, high first (R188). -/
def wordOf (cs : List Byte) : Word := cs.foldl (fun w c => (w <<< 8) ||| c.zeroExtend 32) 0

/-- The four-character field at an offset of a body. -/
def field4 (body : List Byte) (k : Nat) : Word := wordOf ((body.drop k).take 4)

/-- The one-character field at an offset of a body. -/
def field1 (body : List Byte) (k : Nat) : Byte := body.getD k 0

/-- The body length of a Kind, absent for a Kind outside the catalogue (R184). -/
def bodyLength (kind : Byte) : Option Nat :=
  if kindInCatalogue kind then
    some (([11, 5, 0, 4, 4, 0, 5, 1, 4, 1, 1, 1, 0, 0, 0, 0, 0, 0, 0, 5, 0, 21, 1, 2, 2, 0, 0, 0, 0, 0, 0, 0, 0, 0] :
      List Nat).getD (kind.toNat - 1) 0)
  else none

/-- The owner's answer to a request of the catalogue, by its Kind (R184 steps 3 and 4). -/
def answerKind (kind tag : Byte) (b : List Byte) : State → State × Answer :=
  match kind.toNat with
  | 1 => ansAdmit (field4 b 0) (field1 b 4) (field4 b 5) (field1 b 9) (field1 b 10)
  | 2 => ansQuery (field1 b 0) (field4 b 1)
  | 3 => ansListTable
  | 4 => ansWithdraw (field4 b 0)
  | 5 => ansRelease (field4 b 0)
  | 6 => ansTakeClosed tag
  | 7 => ansBegin (field4 b 0) (field1 b 4)
  | 8 => ansAbort (field1 b 0)
  | 9 => ansWaive (field4 b 0)
  | 10 => ansClearStation (field1 b 0)
  | 11 => ansReceiverChanged (field1 b 0)
  | 12 => ansReadStation (field1 b 0)
  | 13 => ansFeedClear
  | 14 => ansFeedReturn
  | 15 => ansHoldOn
  | 16 => ansHoldOff
  | 17 => ansTripReset
  | 18 => ansDrainBegin
  | 19 => ansDrainEnd
  | 20 => ansSetConfig (field1 b 0) (field4 b 1)
  | 21 => ansReadConfig
  | 22 => ansSetChannel (field1 b 0) (field4 b 1) (field4 b 5) (field4 b 9) (field4 b 13) (field4 b 17)
  | 23 => ansReadChannel (field1 b 0)
  | 24 => ansSetSource (field1 b 0) (field1 b 1)
  | 25 => ansSetMask (field1 b 0) (field1 b 1)
  | 26 => ansTakeNotices tag
  | 27 => ansReadStatus
  | 28 => ansReadTotals
  | 29 => ansClearTotals
  | 30 => ansLineRun
  | 31 => ansLineHold
  | 32 => ansLineStop
  | 33 => ansLineResume
  | 34 => ansClearLine
  | _ => fun s => (s, bare .badKind)

/-- The line requests' Kinds (R184). -/
def kindOfLine (kind : Byte) : Bool := decide (30 ≤ kind.toNat ∧ kind.toNat ≤ 33)

/-- BAD_LENGTH; that a line request's refusal carries the line state here too is read from R187 (R166, log 32). -/
def ansBadLength (kind : Byte) (s : State) : State × Answer :=
  if kindOfLine kind then lineAnswer .badLength s else (s, bare .badLength)

/-- The Request Handler's judgement of a good frame: BAD_KIND, BAD_LENGTH, then the owner (R184). -/
def answerFrame (kind tag : Byte) (body : List Byte) : State → State × Answer :=
  match bodyLength kind with
  | none => fun s => (s, bare .badKind)
  | some n => if body.length = n then answerKind kind tag body else ansBadLength kind

/-- A good frame, addressed or broadcast (R184, R186). -/
def State.goodFrame (s : State) (kind tag : Byte) (body : List Byte) : State :=
  if s.link.broadcast then
    if broadcastTaken kind (BitVec.ofNat 8 body.length) then s.takeBroadcast (answerKind kind tag body)
    else s.ignoreBroadcast
  else s.takeRequest kind tag (answerFrame kind tag body)

/-- The frame complete at its second check character (R180, R181). -/
def State.frameComplete (s : State) (checkHigh checkLow : Byte) : State :=
  if crc s.link.buffer = checkHigh ++ checkLow then
    s.goodFrame (field1 s.link.buffer 1) (field1 s.link.buffer 2) (s.link.buffer.drop 3)
  else s.checkError .mismatch

/-- A character stored, with the number still expected after it; the gap deadline is set anew (R180, R182). -/
def State.storeChar (s : State) (c : Byte) (expected : Nat) : State :=
  { s with link := { s.link with buffer := s.link.buffer ++ [c], expected := some expected, gap := true } }

/-- A correct character without mark (R179, R180). -/
def State.heardChar (s : State) (c : Byte) : State :=
  if s.link.rx = .receiving then
    match s.link.expected with
    | none => if 240 < c.toNat then s.checkError .overlong else s.storeChar c (c.toNat + 4)
    | some k =>
      if 2 < k then s.storeChar c (k - 1)
      else
        match s.link.checkHigh with
        | none => { s with link := { s.link with checkHigh := some c, expected := some (k - 1), gap := true } }
        | some h => s.frameComplete h c
  else s

/-! ### Transmission (R185, R187) -/

/-- The port begins to transmit the due reply (R185). -/
def State.startReply (s : State) : State :=
  match s.link.reply with
  | none => s
  | some r => if s.replying && s.link.tx == [] then { s with link := { s.link with tx := r.chars } } else s

/-- The end of the reply's last check character: the line is released and the port enters HUNT (R185). -/
def State.endReply (s : State) : State :=
  if s.replying && s.link.tx != [] then { s with link := { s.link with rx := .hunt, reply := none, tx := [] } } else s

end Sys2Proof.Machine
end

