-- ==== Sys2Proof/Machine/Reception.lean ====
section
/-! DEFINITION. The meanings of the serial line's events (R177 to R183, R185): device reset, characters and
reception errors, and the transmission of a reply. -/

namespace Sys2Proof.Machine

/-- DEVICE_RESET with the sampled straps (R177). -/
def execDeviceReset (addr : BitVec 5) (rate stations : Bool) (s : State) : Host.Outcome State Fault Refusal :=
  .next (s.deviceReset addr rate stations)

/-- An address character (R179). -/
def execAddressCharacter (data : Byte) (s : State) : Host.Outcome State Fault Refusal :=
  .next (s.heardAddress data)

/-- A correct character without mark (R179, R180). -/
def execCharacterWithoutMark (data : Byte) (s : State) : Host.Outcome State Fault Refusal :=
  .next (s.heardChar data)

/-- A character without a stop bit (R182). -/
def execFraming (s : State) : Host.Outcome State Fault Refusal :=
  .next s.framingError

/-- The gap deadline passes in RECEIVING (R182). -/
def execGap (s : State) : Host.Outcome State Fault Refusal :=
  .next s.gapError

/-- A frame fails its check, or its Length is above 240 (R180, R182). -/
def execCheck (cause : CheckCause) (s : State) : Host.Outcome State Fault Refusal :=
  .next (s.checkError cause)

/-- The port begins to transmit the due reply (R185). -/
def execReplyStart (s : State) : Host.Outcome State Fault Refusal :=
  .next s.startReply

/-- The end of the reply's last check character (R185). -/
def execReplyEnd (s : State) : Host.Outcome State Fault Refusal :=
  .next s.endReply

end Sys2Proof.Machine
end

