-- ==== Sys2Proof/Machine/Requests.lean ====
section
/-! DEFINITION. The meanings of the requests of the catalogue (R184): each is the step that completes a good
frame of its Kind, with the fields of its body. -/

namespace Sys2Proof.Machine

/-- ADMIT APPLIANCE (R7, R8). -/
def execAdmitAppliance (tag : Byte) (ident : Word) (declared : Byte) (charge : Word) (foamClass foamAgent : Byte) (s : State) :
    Host.Outcome State Fault Refusal :=
  .next (s.request 1 tag (ansAdmit ident declared charge foamClass foamAgent))

/-- QUERY APPLIANCE (R22). -/
def execQueryAppliance (tag : Byte) (selector : Byte) (key : Word) (s : State) : Host.Outcome State Fault Refusal :=
  .next (s.request 2 tag (ansQuery selector key))

/-- LIST TABLE (R23). -/
def execListTable (tag : Byte) (s : State) : Host.Outcome State Fault Refusal :=
  .next (s.request 3 tag ansListTable)

/-- WITHDRAW (R19). -/
def execWithdraw (tag : Byte) (ident : Word) (s : State) : Host.Outcome State Fault Refusal :=
  .next (s.request 4 tag (ansWithdraw ident))

/-- RELEASE TO SHRED (R12). -/
def execReleaseToShred (tag : Byte) (ident : Word) (s : State) : Host.Outcome State Fault Refusal :=
  .next (s.request 5 tag (ansRelease ident))

/-- TAKE CLOSED (R111, R112). -/
def execTakeClosed (tag : Byte) (s : State) : Host.Outcome State Fault Refusal :=
  .next (s.request 6 tag (ansTakeClosed tag))

/-- BEGIN EXTRACTION (R29, R30). -/
def execBeginExtraction (tag : Byte) (ident : Word) (station : Byte) (s : State) : Host.Outcome State Fault Refusal :=
  .next (s.request 7 tag (ansBegin ident station))

/-- ABORT EXTRACTION (R44). -/
def execAbortExtraction (tag : Byte) (station : Byte) (s : State) : Host.Outcome State Fault Refusal :=
  .next (s.request 8 tag (ansAbort station))

/-- WAIVE EXTRACTION (R50). -/
def execWaiveExtraction (tag : Byte) (ident : Word) (s : State) : Host.Outcome State Fault Refusal :=
  .next (s.request 9 tag (ansWaive ident))

/-- CLEAR STATION (R49). -/
def execClearStation (tag : Byte) (station : Byte) (s : State) : Host.Outcome State Fault Refusal :=
  .next (s.request 10 tag (ansClearStation station))

/-- RECEIVER CHANGED (R51). -/
def execReceiverChanged (tag : Byte) (station : Byte) (s : State) : Host.Outcome State Fault Refusal :=
  .next (s.request 11 tag (ansReceiverChanged station))

/-- READ STATION (R53). -/
def execReadStation (tag : Byte) (station : Byte) (s : State) : Host.Outcome State Fault Refusal :=
  .next (s.request 12 tag (ansReadStation station))

/-- FEED CLEAR (R78). -/
def execFeedClear (tag : Byte) (s : State) : Host.Outcome State Fault Refusal :=
  .next (s.request 13 tag ansFeedClear)

/-- FEED RETURN (R78). -/
def execFeedReturn (tag : Byte) (s : State) : Host.Outcome State Fault Refusal :=
  .next (s.request 14 tag ansFeedReturn)

/-- INERT HOLD ON (R85). -/
def execInertHoldOn (tag : Byte) (s : State) : Host.Outcome State Fault Refusal :=
  .next (s.request 15 tag ansHoldOn)

/-- INERT HOLD OFF (R85). -/
def execInertHoldOff (tag : Byte) (s : State) : Host.Outcome State Fault Refusal :=
  .next (s.request 16 tag ansHoldOff)

/-- TRIP RESET (R89). -/
def execTripReset (tag : Byte) (s : State) : Host.Outcome State Fault Refusal :=
  .next (s.request 17 tag ansTripReset)

/-- DRAIN BEGIN (R107). -/
def execDrainBegin (tag : Byte) (s : State) : Host.Outcome State Fault Refusal :=
  .next (s.request 18 tag ansDrainBegin)

/-- DRAIN END (R108). -/
def execDrainEnd (tag : Byte) (s : State) : Host.Outcome State Fault Refusal :=
  .next (s.request 19 tag ansDrainEnd)

/-- SET CONFIG (R189). -/
def execSetConfig (tag : Byte) (item : Byte) (value : Word) (s : State) : Host.Outcome State Fault Refusal :=
  .next (s.request 20 tag (ansSetConfig item value))

/-- READ CONFIG (R189). -/
def execReadConfig (tag : Byte) (s : State) : Host.Outcome State Fault Refusal :=
  .next (s.request 21 tag ansReadConfig)

/-- SET CHANNEL (R132). -/
def execSetChannel (tag : Byte) (channel : Byte) (zero span low high band : Word) (s : State) :
    Host.Outcome State Fault Refusal :=
  .next (s.request 22 tag (ansSetChannel channel zero span low high band))

/-- READ CHANNEL (R134). -/
def execReadChannel (tag : Byte) (channel : Byte) (s : State) : Host.Outcome State Fault Refusal :=
  .next (s.request 23 tag (ansReadChannel channel))

/-- SET SOURCE (R156). -/
def execSetSource (tag : Byte) (index level : Byte) (s : State) : Host.Outcome State Fault Refusal :=
  .next (s.request 24 tag (ansSetSource index level))

/-- SET MASK (R157). -/
def execSetMask (tag : Byte) (mask attention : Byte) (s : State) : Host.Outcome State Fault Refusal :=
  .next (s.request 25 tag (ansSetMask mask attention))

/-- TAKE NOTICES (R161, R162). -/
def execTakeNotices (tag : Byte) (s : State) : Host.Outcome State Fault Refusal :=
  .next (s.request 26 tag (ansTakeNotices tag))

/-- READ STATUS (R190). -/
def execReadStatus (tag : Byte) (s : State) : Host.Outcome State Fault Refusal :=
  .next (s.request 27 tag ansReadStatus)

/-- READ TOTALS (R118). -/
def execReadTotals (tag : Byte) (s : State) : Host.Outcome State Fault Refusal :=
  .next (s.request 28 tag ansReadTotals)

/-- CLEAR TOTALS (R119). -/
def execClearTotals (tag : Byte) (s : State) : Host.Outcome State Fault Refusal :=
  .next (s.request 29 tag ansClearTotals)

/-- LINE RUN (R167). -/
def execLineRun (tag : Byte) (s : State) : Host.Outcome State Fault Refusal :=
  .next (s.request 30 tag ansLineRun)

/-- LINE HOLD, addressed (R168) or broadcast (R186). -/
def execLineHold (tag : Byte) (broadcast : Bool) (s : State) : Host.Outcome State Fault Refusal :=
  .next (if broadcast then s.broadcast ansLineHold else s.request 31 tag ansLineHold)

/-- LINE STOP, addressed (R169) or broadcast (R186). -/
def execLineStop (tag : Byte) (broadcast : Bool) (s : State) : Host.Outcome State Fault Refusal :=
  .next (if broadcast then s.broadcast ansLineStop else s.request 32 tag ansLineStop)

/-- LINE RESUME (R172). -/
def execLineResume (tag : Byte) (s : State) : Host.Outcome State Fault Refusal :=
  .next (s.request 33 tag ansLineResume)

/-- CLEAR LINE (R175, R176). -/
def execClearLine (tag : Byte) (s : State) : Host.Outcome State Fault Refusal :=
  .next (s.request 34 tag ansClearLine)

/-- A good frame addressed to this part whose Kind the catalogue does not hold: answered BAD_KIND (R184). A Kind
of the catalogue is no such frame and has its own command; the step leaves the state as it is. -/
def execBadKind (tag kind : Byte) (s : State) : Host.Outcome State Fault Refusal :=
  .next (if kindInCatalogue kind then s else s.request kind tag fun t => (t, bare .badKind))

/-- A good broadcast that is not taken: ignored and counted not-mine (R186); lost while the part owes or sends a
reply (R185). LINE STOP and LINE HOLD of Length 0 are no such frames and have their own commands. -/
def execBroadcastIgnored (kind length : Byte) (s : State) : Host.Outcome State Fault Refusal :=
  .next (if broadcastTaken kind length || s.replying then s else s.ignoreBroadcast)

end Sys2Proof.Machine
end

