-- ==== Sys2Proof/Machine/Dispatch.lean ====
section
/-! DEFINITION. What each command does to everything but the queue of waiting commands: one arm for each row of
spec/opcode_table.json. -/

namespace Sys2Proof.Machine

def exec (i : Instr) (s : State) : Host.Outcome State Fault Refusal :=
  match i with
  | .deviceReset addr rate stations => Sys2Proof.Machine.execDeviceReset addr rate stations s
  | .admitAppliance tag ident declared charge foamClass foamAgent => Sys2Proof.Machine.execAdmitAppliance tag ident declared charge foamClass foamAgent s
  | .queryAppliance tag selector key => Sys2Proof.Machine.execQueryAppliance tag selector key s
  | .listTable tag => Sys2Proof.Machine.execListTable tag s
  | .withdraw tag ident => Sys2Proof.Machine.execWithdraw tag ident s
  | .releaseToShred tag ident => Sys2Proof.Machine.execReleaseToShred tag ident s
  | .takeClosed tag => Sys2Proof.Machine.execTakeClosed tag s
  | .beginExtraction tag ident station => Sys2Proof.Machine.execBeginExtraction tag ident station s
  | .abortExtraction tag station => Sys2Proof.Machine.execAbortExtraction tag station s
  | .waiveExtraction tag ident => Sys2Proof.Machine.execWaiveExtraction tag ident s
  | .clearStation tag station => Sys2Proof.Machine.execClearStation tag station s
  | .receiverChanged tag station => Sys2Proof.Machine.execReceiverChanged tag station s
  | .readStation tag station => Sys2Proof.Machine.execReadStation tag station s
  | .feedClear tag => Sys2Proof.Machine.execFeedClear tag s
  | .feedReturn tag => Sys2Proof.Machine.execFeedReturn tag s
  | .inertHoldOn tag => Sys2Proof.Machine.execInertHoldOn tag s
  | .inertHoldOff tag => Sys2Proof.Machine.execInertHoldOff tag s
  | .tripReset tag => Sys2Proof.Machine.execTripReset tag s
  | .drainBegin tag => Sys2Proof.Machine.execDrainBegin tag s
  | .drainEnd tag => Sys2Proof.Machine.execDrainEnd tag s
  | .setConfig tag item value => Sys2Proof.Machine.execSetConfig tag item value s
  | .readConfig tag => Sys2Proof.Machine.execReadConfig tag s
  | .setChannel tag channel zero span low high band => Sys2Proof.Machine.execSetChannel tag channel zero span low high band s
  | .readChannel tag channel => Sys2Proof.Machine.execReadChannel tag channel s
  | .setSource tag index level => Sys2Proof.Machine.execSetSource tag index level s
  | .setMask tag mask attention => Sys2Proof.Machine.execSetMask tag mask attention s
  | .takeNotices tag => Sys2Proof.Machine.execTakeNotices tag s
  | .readStatus tag => Sys2Proof.Machine.execReadStatus tag s
  | .readTotals tag => Sys2Proof.Machine.execReadTotals tag s
  | .clearTotals tag => Sys2Proof.Machine.execClearTotals tag s
  | .lineRun tag => Sys2Proof.Machine.execLineRun tag s
  | .lineHold tag broadcast => Sys2Proof.Machine.execLineHold tag broadcast s
  | .lineStop tag broadcast => Sys2Proof.Machine.execLineStop tag broadcast s
  | .lineResume tag => Sys2Proof.Machine.execLineResume tag s
  | .clearLine tag => Sys2Proof.Machine.execClearLine tag s
  | .badKind tag kind => Sys2Proof.Machine.execBadKind tag kind s
  | .broadcastIgnored kind length => Sys2Proof.Machine.execBroadcastIgnored kind length s
  | .addressCharacter data => Sys2Proof.Machine.execAddressCharacter data s
  | .framing => Sys2Proof.Machine.execFraming s
  | .gap => Sys2Proof.Machine.execGap s
  | .check cause => Sys2Proof.Machine.execCheck cause s
  | .replyStart => Sys2Proof.Machine.execReplyStart s
  | .replyEnd => Sys2Proof.Machine.execReplyEnd s
  | .clampClosedTrue n => Sys2Proof.Machine.execClampClosedTrue n s
  | .clampOpened n => Sys2Proof.Machine.execClampOpened n s
  | .clampTimeout n => Sys2Proof.Machine.execClampTimeout n s
  | .scaleUnsettled n => Sys2Proof.Machine.execScaleUnsettled n s
  | .tPierceExpiry n => Sys2Proof.Machine.execTPierceExpiry n s
  | .probe n pair => Sys2Proof.Machine.execProbe n pair s
  | .tEvacExpiry n pair => Sys2Proof.Machine.execTEvacExpiry n pair s
  | .tRiseExpiry n => Sys2Proof.Machine.execTRiseExpiry n s
  | .tDrainExpiry n => Sys2Proof.Machine.execTDrainExpiry n s
  | .weighingSettleTimeout n => Sys2Proof.Machine.execWeighingSettleTimeout n s
  | .gateClosedFalse => Sys2Proof.Machine.execGateClosedFalse s
  | .gateClosedTrue => Sys2Proof.Machine.execGateClosedTrue s
  | .tOpenExpiry => Sys2Proof.Machine.execTOpenExpiry s
  | .tPassExpiry => Sys2Proof.Machine.execTPassExpiry s
  | .tCloseExpiry => Sys2Proof.Machine.execTCloseExpiry s
  | .feedCapture => Sys2Proof.Machine.execFeedCapture s
  | .shredderRunningChange running => Sys2Proof.Machine.execShredderRunningChange running s
  | .emergencyStopAsserted => Sys2Proof.Machine.execEmergencyStopAsserted s
  | .emergencyStopReleased => Sys2Proof.Machine.execEmergencyStopReleased s
  | .flowEdge => Sys2Proof.Machine.execFlowEdge s
  | .atmospherePeriodExpiry => Sys2Proof.Machine.execAtmospherePeriodExpiry s
  | .groupAConversion raw => Sys2Proof.Machine.execGroupAConversion raw s
  | .groupBPassCompletion raw first tickApart => Sys2Proof.Machine.execGroupBPassCompletion raw first tickApart s
  | .attributionTick => Sys2Proof.Machine.execAttributionTick s
  | .pwmPeriodEnd => Sys2Proof.Machine.execPwmPeriodEnd s
  | .characterWithoutMark data => Sys2Proof.Machine.execCharacterWithoutMark data s
  | .purgeOnTimeEnd => Sys2Proof.Machine.execPurgeOnTimeEnd s

end Sys2Proof.Machine
end

