-- ==== Sys2Proof/Safety.lean ====
section
/-! DEFINITION. What a safe run of the part is, in the manual's own laws: the laws of the notice queue, the
channels, the limits, the foam account, the gate, the stations and the table. Each is a property of one state;
a run is safe where every state of it has them. Beside them the frame of each request, character by character. -/

namespace Sys2Proof.Machine

/-- A law that every step keeps, from any state that has it. -/
def Kept (P : State → Prop) : Prop := ∀ s t : State, P s → step s = .next t → P t

/-! ### Notices (R158, R159) -/

/-- The notice queue holds at most 32 notices, at most 28 of them of level 0 to 2 (R158). -/
abbrev State.noticeLaw (s : State) : Prop :=
  s.arb.queue.length ≤ 32 ∧ (s.arb.queue.filter fun n => decide (n.level.val ≤ 2)).length ≤ 28

/-- A source stands pending only where it is masked or has no room (R159). A DISABLED source is not pending
(R154, R156). -/
abbrev State.postedLaw (s : State) : Prop :=
  ∀ i : SourceNo, s.arb.sources[i].pending.isSome = true → ∃ l ∈ s.arb.sources[i].level,
    l < s.arb.mask ∨ 32 ≤ s.arb.queue.length
      ∨ (l ≠ 3 ∧ 28 ≤ (s.arb.queue.filter fun n => decide (n.level.val ≤ 2)).length)

/-! ### Channels (R126, R129, R135) -/

/-- The value of a channel and every value of its ring lie within its limits, the ring holds at most eight
values, and a channel in NO_DATA has no raw reading and an empty ring (R126, R129, R135). -/
abbrev State.channelLaw (s : State) : Prop :=
  ∀ c : ChannelNo, (s.channel c).low ≤ (s.channel c).value ∧ (s.channel c).value ≤ (s.channel c).high
    ∧ (s.channel c).ring.length ≤ 8
    ∧ (∀ v ∈ (s.channel c).ring, (s.channel c).low ≤ v ∧ v ≤ (s.channel c).high)
    ∧ ((s.channel c).status = .noData → (s.channel c).raw = none ∧ (s.channel c).ring = [])

/-! ### Configuration (R84, R149, R189) -/

/-- Every item lies in its range, held in its unit; the limits keep their order; the flow divider is 1, 4 or
16 (R84, R149, R189). -/
abbrev State.limitLaw (s : State) : Prop :=
  (∀ i : Item, (itemRow i).lo * (itemRow i).scale ≤ s.item i ∧ s.item i ≤ (itemRow i).hi * (itemRow i).scale
    ∧ s.item i % (itemRow i).scale = 0)
    ∧ s.item iO2Set < s.item iLInert ∧ s.item iLInert < s.item iLTrip ∧ s.item iLFeed < s.item iLTripLFL
    ∧ (s.item iDivider = 1 ∨ s.item iDivider = 4 ∨ s.item iDivider = 16)

/-! ### Totals (R102, R113, R117) -/

/-- No total exceeds its maximum, a set indicator stands beside the maximum, and while captured's indicator is
clear so are attributed's and the pool's, and attributed plus pool is captured (R102, R113, R117). -/
abbrev State.accountLaw (s : State) : Prop :=
  (∀ i : TotalNo, s.totals[i].value ≤ 4294967295
    ∧ (s.totals[i].saturated = true → s.totals[i].value = 4294967295))
    ∧ (s.totals[totCaptured].saturated = false →
      s.totals[totAttributed].saturated = false ∧ s.totals[totPool].saturated = false
        ∧ s.totals[totAttributed].value + s.totals[totPool].value = s.totals[totCaptured].value)

/-! ### The gate and the line (R45, R70, R88, R171) -/

/-- FEED GATE is never energized while the atmosphere is TRIPPED (R70). -/
abbrev State.gateLaw (s : State) : Prop := s.feedGateOut = true → s.atm.state ≠ .tripped

/-- While a FLAMMABLE record is in FEEDING or SHREDDING the atmosphere is not AIR (R88). -/
abbrev State.airLaw (s : State) : Prop := s.flammableInside = true → s.atm.state ≠ .air

/-- An unfitted station is IDLE (R25); in STOP and INITIAL no station is in a state from CLAMPING to
DRAINING_OIL, so that no PIERCE or SUCTION output is energized (R45, R171). -/
abbrev State.stopLaw (s : State) : Prop :=
  ∀ n : StationNo, (s.fitted n = false → (s.station n).state = .idle)
    ∧ (s.line.state = .stop ∨ s.line.state = .initial →
      (s.station n).state.running = false ∧ s.pierceOut n = false ∧ s.suctionOut n = false)

/-! ### The table, the stations and the Feeder (R2, R4, R9, R13 to R17, R20, R25, R28, R57, R70 to R72) -/

/-- The phase of a slot's record. -/
def State.phaseAt (s : State) (i : Slot) : Option Phase := (s.record i).map Record.phase

/-- The records and the collections agree (R1, R2, R4, R13, R14, R17, R20). -/
abbrev State.tableLaw (s : State) : Prop :=
  (∀ i : Slot, ∀ r ∈ s.record i, r.slot = i ∧ r.ident ≠ 0 ∧ r.attempts ≤ 2 ∧ r.used.length ≤ r.attempts
    ∧ (r.bound.isSome ↔ r.phase = .extracting) ∧ (r.ticks.isSome ↔ r.phase = .shredding))
    ∧ (∀ i j : Slot, ∀ r ∈ s.record i, ∀ q ∈ s.record j, r.ident = q.ident → i = j)
    ∧ s.table.shredQueue.Nodup ∧ (∀ i : Slot, i ∈ s.table.shredQueue ↔ s.phaseAt i = some .shredWait)
    ∧ s.table.openSet.Nodup ∧ (∀ i : Slot, i ∈ s.table.openSet ↔ s.phaseAt i = some .shredding)
    ∧ s.table.closedList.Nodup ∧ (∀ i : Slot, i ∈ s.table.closedList ↔ s.phaseAt i = some .closed)
    ∧ (∀ i : Slot, s.table.feeding = some i ↔ s.phaseAt i = some .feeding)
    ∧ s.table.openSet.length + (if s.table.feeding.isSome then 1 else 0) ≤ 8

/-- The states in which a station holds an appliance and runs its timer (R25, R28). -/
def StationState.busy (x : StationState) : Bool := x.running || x == .weighing || x == .abortWeighing

/-- The states of an attempt whose circuit is open (R33, R46). -/
def StationState.open (x : StationState) : Bool := x.busy && x != .clamping && x != .taring

/-- A station by itself: its bound slot, timer, causes, pierced mark and tare as its state has them (R25, R28,
R46, R48, R57). -/
abbrev Station.law (x : Station) : Prop :=
  x.bound.isSome = x.state.busy ∧ x.deadline.isSome = x.state.busy
    ∧ (x.endCause.isSome ↔ x.state = .abortWeighing) ∧ (x.faultCause.isSome ↔ x.state = .faulted)
    ∧ (x.state.open = true → x.pierced = true) ∧ (x.state = .clamping ∨ x.state = .taring → x.pierced = false)
    ∧ (x.pierced = true → x.tareReceiver.isSome = true ∧ x.tareOil.isSome = true)

/-- A station and an appliance are bound to each other, and an attempt not yet pierced has an attempt left
(R4, R9, R29). -/
abbrev State.bindingLaw (s : State) : Prop :=
  (∀ n : StationNo, ∀ i ∈ (s.station n).bound, ∃ r ∈ s.record i, r.phase = .extracting ∧ r.bound = some n
    ∧ ((s.station n).pierced = false → r.attempts < 2))
    ∧ ∀ i : Slot, ∀ r ∈ s.record i, ∀ n ∈ r.bound, (s.station n).bound = some i

/-- The Feeder's state, its timer, its jam cause, the feeding slot and the shred queue agree (R70 to R72). -/
abbrev State.feederLaw (s : State) : Prop :=
  (s.feeder.state = .opening ∨ s.feeder.state = .passing → s.table.feeding.isSome = true)
    ∧ (s.feeder.state = .idle ∨ s.feeder.state = .waitPermit ∨ s.feeder.state = .closing → s.table.feeding = none)
    ∧ (s.feeder.state = .idle → s.table.shredQueue = []) ∧ (s.feeder.state = .waitPermit → s.table.shredQueue ≠ [])
    ∧ (s.feeder.jam.isSome ↔ s.feeder.state = .jammed)
    ∧ (s.feeder.deadline.isSome ↔
      s.feeder.state = .opening ∨ s.feeder.state = .passing ∨ s.feeder.state = .closing)

/-- The blocks agree with each other; an unfitted station is IDLE (R25); trip causes are present while TRIPPED
(R83). -/
abbrev State.consistent (s : State) : Prop :=
  s.tableLaw ∧ (∀ n : StationNo, (s.station n).law) ∧ s.bindingLaw ∧ s.feederLaw
    ∧ (∀ n : StationNo, s.fitted n = false → (s.station n).state = .idle)
    ∧ (s.atm.tripCauses.isSome ↔ s.atm.state = .tripped)

/-! ### Replies -/

/-- The part after a request that its frame completes: the frame is counted good, nothing is being received, and
the reply stands due with the request's Kind and Tag (R183, R185, R187). -/
def State.replied (s : State) (kind tag : Byte) (a : Answer) : State :=
  { s with
    link := { s.link with
      rx := .replying
      buffer := []
      checkHigh := none
      expected := none
      gap := false
      good := min 65535 (s.link.good + 1)
      reply := some { kind, tag, body := a.status.code :: (if a.clamped then 1 else 0) :: a.content } } }

/-! ### Frames of requests (R184, R188, R191) -/

/-- The Kind, Tag and body of a request's frame, in the order of the body fields of R184; none for an event. -/
def requestFrame : Instr → Option (Byte × Byte × List Byte)
  | .admitAppliance tag ident declared charge foamClass foamAgent =>
    some (1, tag, word4 ident ++ [declared] ++ word4 charge ++ [foamClass, foamAgent])
  | .queryAppliance tag selector key => some (2, tag, selector :: word4 key)
  | .listTable tag => some (3, tag, [])
  | .withdraw tag ident => some (4, tag, word4 ident)
  | .releaseToShred tag ident => some (5, tag, word4 ident)
  | .takeClosed tag => some (6, tag, [])
  | .beginExtraction tag ident station => some (7, tag, word4 ident ++ [station])
  | .abortExtraction tag station => some (8, tag, [station])
  | .waiveExtraction tag ident => some (9, tag, word4 ident)
  | .clearStation tag station => some (10, tag, [station])
  | .receiverChanged tag station => some (11, tag, [station])
  | .readStation tag station => some (12, tag, [station])
  | .feedClear tag => some (13, tag, [])
  | .feedReturn tag => some (14, tag, [])
  | .inertHoldOn tag => some (15, tag, [])
  | .inertHoldOff tag => some (16, tag, [])
  | .tripReset tag => some (17, tag, [])
  | .drainBegin tag => some (18, tag, [])
  | .drainEnd tag => some (19, tag, [])
  | .setConfig tag item value => some (20, tag, item :: word4 value)
  | .readConfig tag => some (21, tag, [])
  | .setChannel tag channel zero span low high band =>
    some (22, tag, channel :: (word4 zero ++ word4 span ++ word4 low ++ word4 high ++ word4 band))
  | .readChannel tag channel => some (23, tag, [channel])
  | .setSource tag index level => some (24, tag, [index, level])
  | .setMask tag mask attention => some (25, tag, [mask, attention])
  | .takeNotices tag => some (26, tag, [])
  | .readStatus tag => some (27, tag, [])
  | .readTotals tag => some (28, tag, [])
  | .clearTotals tag => some (29, tag, [])
  | .lineRun tag => some (30, tag, [])
  | .lineHold tag _ => some (31, tag, [])
  | .lineStop tag _ => some (32, tag, [])
  | .lineResume tag => some (33, tag, [])
  | .clearLine tag => some (34, tag, [])
  | .badKind tag kind => some (kind, tag, [])
  | .deviceReset _ _ _ => none
  | .broadcastIgnored _ _ => none
  | .addressCharacter _ => none
  | .framing => none
  | .gap => none
  | .check _ => none
  | .replyStart => none
  | .replyEnd => none
  | .clampClosedTrue _ => none
  | .clampOpened _ => none
  | .clampTimeout _ => none
  | .scaleUnsettled _ => none
  | .tPierceExpiry _ => none
  | .probe _ _ => none
  | .tEvacExpiry _ _ => none
  | .tRiseExpiry _ => none
  | .tDrainExpiry _ => none
  | .weighingSettleTimeout _ => none
  | .gateClosedFalse => none
  | .gateClosedTrue => none
  | .tOpenExpiry => none
  | .tPassExpiry => none
  | .tCloseExpiry => none
  | .feedCapture => none
  | .shredderRunningChange _ => none
  | .emergencyStopAsserted => none
  | .emergencyStopReleased => none
  | .flowEdge => none
  | .atmospherePeriodExpiry => none
  | .groupAConversion _ => none
  | .groupBPassCompletion _ _ _ => none
  | .attributionTick => none
  | .pwmPeriodEnd => none
  | .characterWithoutMark _ => none
  | .purgeOnTimeEnd => none

/-- Whether a request is sent as a broadcast (R186). -/
def isBroadcast : Instr → Bool
  | .lineHold _ b => b
  | .lineStop _ b => b
  | _ => false

/-- The commands of a list taken one after another, stopping at the first that gives no next state. -/
def runAll (s : State) : List Instr → Host.Outcome State Fault Refusal
  | [] => .next s
  | c :: rest =>
    match exec c s with
    | .next t => runAll t rest
    | .fault f => .fault f
    | .refused r => .refused r

end Sys2Proof.Machine
end

