-- ==== Sys2Proof/Certificates/Slice0/Obligations.lean ====
section
/-! DEFINITION. The statements for the provers, each a proposition about the model, by the chapters of the manual.
A request's statement gives the whole next state: the owner's change to its own state beside the reply that stands
due (`State.replied`), so that all else is unchanged. -/

open Sys2Proof Sys2Proof.Machine

/-! ### The machine -/

/-- A step with a command in front is that command on the state with the rest of the queue. -/
def Obligations.StepTakesFront : Prop :=
  ∀ (c : Instr) (s : State),
    step (s.putFront c) = exec c s
      ∧ ∀ rest, s.pending = c :: rest → step s = exec c { s with pending := rest }

/-- The model's choice for an empty queue (logs 1, 4): a tick still due is queued; otherwise one millisecond passes (R137). The
group B pass in progress samples its next input at every second millisecond from its start (R124). The events that wait
then, once each and in an order nothing fixes (log 2), are those due at the new reading: the expiry of a station's
state or of the Feeder's (R143), a probe (R144), a group A conversion (R122), the completion of a pass that holds its eight
readings, with an order of its readers nothing fixes (R124, R125, log 3), the atmosphere period (R139), the end of the PWM
period and of its on-time (R150). Nothing else changes. -/
def Obligations.IdleLetsTimePass : Prop :=
  ∀ s : State, s.pending = [] →
    (∀ x, s.foam.tickDue = some x → step s = .next { s with pending := [.attributionTick] })
      ∧ (s.foam.tickDue = none → ∃ t : State, step s = .next t
        ∧ t = { s with
          clock := s.clock + 1, scan := { s.scan with pass := t.scan.pass }, free := s.free + t.pending.length + 1
          pending := t.pending }
        ∧ t.scan.pass = s.scan.pass.map (fun p => { p with
          held := if h : p.held.length < 8 then
              if (s.clock + 1 - p.started).toNat = 2 * (p.held.length + 1) then p.held ++ [s.pins.analog[8 + p.held.length]]
              else p.held
            else p.held })
        ∧ t.pending.Nodup
        ∧ ∀ e, e ∈ t.pending ↔
          (∃ n, (s.station n).deadline = some t.clock ∧
            ((s.station n).state = .clamping ∧ e = .clampTimeout n ∨ (s.station n).state = .taring ∧ e = .scaleUnsettled n
              ∨ (s.station n).state = .piercing ∧ e = .tPierceExpiry n
              ∨ (s.station n).state = .evacuating ∧ e = .tEvacExpiry n s.pins.analyser[n]
              ∨ (s.station n).state = .riseTest ∧ e = .tRiseExpiry n ∨ (s.station n).state = .drainingOil ∧ e = .tDrainExpiry n
              ∨ ((s.station n).state = .weighing ∨ (s.station n).state = .abortWeighing) ∧ e = .weighingSettleTimeout n))
          ∨ (∃ n, (s.station n).probeDeadline = some t.clock ∧ e = .probe n s.pins.analyser[n])
          ∨ (s.feeder.deadline = some t.clock ∧
            (s.feeder.state = .opening ∧ e = .tOpenExpiry ∨ s.feeder.state = .passing ∧ e = .tPassExpiry
              ∨ s.feeder.state = .closing ∧ e = .tCloseExpiry))
          ∨ (s.scan.due = t.clock ∧ ∃ c : Fin 8, (s.scan.next.val < 2 * s.fittedCount → c = s.scan.next)
            ∧ (2 * s.fittedCount ≤ s.scan.next.val → c = 0) ∧ e = .groupAConversion s.pins.analog[c])
          ∨ (∃ p raw, t.scan.pass = some p ∧ p.held = Vector.toList raw
            ∧ e = .groupBPassCompletion raw (Config.passOrder s.free) (Config.tickApart s.free))
          ∨ (s.period.nextDeadline = t.clock ∧ e = .atmospherePeriodExpiry)
          ∨ ((t.clock - s.pwm.start).toNat = s.pwm.length ∧ e = .pwmPeriodEnd)
          ∨ (s.pwm.purge = true ∧ (t.clock - s.pwm.start).toNat = s.pwm.active * s.pwm.length / 1000
            ∧ s.pwm.active * s.pwm.length / 1000 < s.pwm.length ∧ e = .purgeOnTimeEnd))

/-- Every command gives a next state and leaves the counter of the free values alone (log 21); but for device reset it leaves
the waiting commands and the line clock, which a step otherwise moves only by the passing of a millisecond (R137): on an
empty queue, by 1, and not while a tick is due (logs 1, 4). Device reset sets the clock to 0 and keeps the waiting commands
(log 25), behind the reading of an asserted EMERGENCY STOP that the first step after it takes (R166, log 10). -/
def Obligations.EveryCommandGivesANextState : Prop :=
  (∀ (c : Instr) (s : State), ∃ t : State, exec c s = .next t ∧ t.free = s.free
    ∧ ((∀ addr rate stations, c ≠ .deviceReset addr rate stations) → t.pending = s.pending ∧ t.clock = s.clock)
    ∧ (∀ addr rate stations, c = .deviceReset addr rate stations → t.clock = 0
      ∧ t.pending = if s.pins.emergencyStop = true then .emergencyStopAsserted :: s.pending else s.pending))
  ∧ ∀ s : State, s.pending = [] → ∃ t : State, step s = .next t
    ∧ t.clock = if s.foam.tickDue.isSome = true then s.clock else s.clock + 1

/-- The state after reset has every law of a safe run. -/
def Obligations.ResetHasTheLaws : Prop :=
  State.reset.noticeLaw ∧ State.reset.postedLaw ∧ State.reset.channelLaw ∧ State.reset.limitLaw
    ∧ State.reset.accountLaw ∧ State.reset.gateLaw ∧ State.reset.airLaw ∧ State.reset.stopLaw ∧ State.reset.consistent

/-- The queue never holds more than 32 notices, nor more than 28 below level 3 (R158); between steps a source is
pending only where it is masked or has no room (R159). -/
def Obligations.NoticeLawsKept : Prop := Kept fun s => s.noticeLaw ∧ s.postedLaw

/-- Every channel's value and ring lie within its limits (R126, R129, R135). -/
def Obligations.ChannelLawKept : Prop := Kept State.channelLaw

/-- Every item keeps its range, and the limits their order (R84, R149, R189). -/
def Obligations.LimitLawKept : Prop := Kept State.limitLaw

/-- Attributed plus pool is captured, short of saturation (R102, R117). -/
def Obligations.AccountLawKept : Prop := Kept State.accountLaw

/-- FEED GATE is never energized while the atmosphere is TRIPPED (R70); no PIERCE or SUCTION output is energized in STOP or
INITIAL, and an unfitted station stays IDLE (R25, R45, R171). -/
def Obligations.GateAndStopLawsKept : Prop := Kept State.gateLaw ∧ Kept State.stopLaw

/-- The table, the stations and the Feeder agree after every step (R1, R2, R4, R9, R13 to R17, R20, R25, R28,
R70, R83). -/
def Obligations.ConsistencyKept : Prop := Kept State.consistent

/-- While a FLAMMABLE record is in FEEDING or SHREDDING the atmosphere is not AIR (R88), for states whose blocks
agree. -/
def Obligations.AirLawKept : Prop := Kept fun s => s.consistent ∧ s.airLaw

/-! ### The serial line (chapter 11) -/

/-- While the part owes or sends a reply it hears nothing: no character, error, request or broadcast changes
anything (R179, R182, R185). A request is lost with its frame (log 7). -/
def Obligations.LostWhileReplying : Prop :=
  ∀ (c : Instr) (s : State), s.link.rx = .replying →
    ((requestFrame c).isSome = true ∨ (∃ k l, c = .broadcastIgnored k l) ∨ (∃ a, c = .addressCharacter a)
      ∨ (∃ a, c = .characterWithoutMark a) ∨ c = .framing ∨ c = .gap ∨ ∃ x, c = .check x) →
    exec c s = .next s

/-- A request that is refused changes nothing but the Link Port's own state (R7, R29, R30, R184). -/
def Obligations.RefusedRequestChangesNothing : Prop :=
  ∀ (c : Instr) (s t : State) (r : Reply), (requestFrame c).isSome = true → isBroadcast c = false →
    s.link.rx ≠ .replying → exec c s = .next t → t.link.reply = some r →
    r.body.head? ≠ some Status.done.code → r.body.head? ≠ some Status.accepted.code →
    t = { s with link := t.link }

/-- The characters of a request's frame, received one after another, have the effect of the request, for an addressed frame
and for a broadcast, whichever kind of frame came before (R179 to R181, R184, R186, R191): the command of a request is the
step that completes its frame (log 7). -/
def Obligations.FrameCompletesItsRequest : Prop :=
  ∀ (c : Instr) (s : State) (a kind tag : Byte) (body : List Byte),
    c.wellFormed = true → requestFrame c = some (kind, tag, body) →
    s.link.rx = .hunt ∨ s.link.rx = .skipping →
    (isBroadcast c = true ∧ a.toNat = 31 ∨ isBroadcast c = false ∧ a.toNat = s.link.address.toNat ∧ a.toNat ≠ 31) →
    runAll s (.addressCharacter a :: (frameChars kind tag body).map .characterWithoutMark)
      = exec c { s with link := { s.link with broadcast := isBroadcast c } }

/-- An address character opens a frame addressed to the part or to every part, sends the receiver to skipping for
any other address (one above 31 among them: log 22), and abandons a frame under way as short (R179, R182). A character
without mark in RECEIVING: the Length fixes how many follow, the covered characters are stored, and the two check
characters decide (R180); outside RECEIVING it changes nothing. A good frame of a Kind of the catalogue with another
Length than its own is answered BAD_LENGTH (R184), a line request's with the line state (R187, log 32). -/
def Obligations.CharactersOnTheLine : Prop :=
  (∀ (s : State) (a : Byte),
    (s.link.rx = .hunt ∨ s.link.rx = .skipping →
      (a.toNat = s.link.address.toNat ∨ a.toNat = 31 →
        exec (.addressCharacter a) s = .next { s with
          link := { s.link with
            rx := .receiving, broadcast := decide (a.toNat = 31), buffer := [], checkHigh := none, expected := none
            gap := true } })
      ∧ (a.toNat ≠ s.link.address.toNat ∧ a.toNat ≠ 31 →
        exec (.addressCharacter a) s = .next { s with
          link := { s.link with
            rx := .skipping, buffer := [], checkHigh := none, expected := none, gap := false
            notMine := min 65535 (s.link.notMine + 1) } }))
    ∧ (s.link.rx = .receiving →
      (a.toNat = s.link.address.toNat ∨ a.toNat = 31 →
        exec (.addressCharacter a) s = .next { s with
          link := { s.link with
            rx := .receiving, broadcast := decide (a.toNat = 31), buffer := [], checkHigh := none, expected := none
            gap := true, gapErrors := min 65535 (s.link.gapErrors + 1) }
          arb := s.arb.raise s.clock srcLinkError none (some (.link .short)) })
      ∧ (a.toNat ≠ s.link.address.toNat ∧ a.toNat ≠ 31 →
        exec (.addressCharacter a) s = .next { s with
          link := { s.link with
            rx := .skipping, buffer := [], checkHigh := none, expected := none, gap := false
            gapErrors := min 65535 (s.link.gapErrors + 1), notMine := min 65535 (s.link.notMine + 1) }
          arb := s.arb.raise s.clock srcLinkError none (some (.link .short)) })))
  ∧
  (∀ (s : State) (c : Byte),
    (s.link.rx ≠ .receiving → exec (.characterWithoutMark c) s = .next s)
    ∧ (s.link.rx = .receiving →
      (s.link.expected = none → c.toNat ≤ 240 →
        exec (.characterWithoutMark c) s = .next { s with
          link := { s.link with buffer := s.link.buffer ++ [c], expected := some (c.toNat + 4), gap := true } })
      ∧ (s.link.expected = none → 240 < c.toNat →
        exec (.characterWithoutMark c) s = exec (.check .overlong) s)
      ∧ (∀ k, s.link.expected = some (k + 3) →
        exec (.characterWithoutMark c) s = .next { s with
          link := { s.link with buffer := s.link.buffer ++ [c], expected := some (k + 2), gap := true } })
      ∧ (s.link.expected = some 2 → s.link.checkHigh = none →
        exec (.characterWithoutMark c) s = .next { s with
          link := { s.link with checkHigh := some c, expected := some 1, gap := true } })
      ∧ (∀ h, s.link.expected = some 1 → s.link.checkHigh = some h → crc s.link.buffer ≠ h ++ c →
        exec (.characterWithoutMark c) s = exec (.check .mismatch) s)
      ∧ (∀ (h len kind tag : Byte) (body : List Byte) (n : Nat), s.link.broadcast = false →
        s.link.expected = some 1 → s.link.checkHigh = some h → s.link.buffer = len :: kind :: tag :: body →
        crc s.link.buffer = h ++ c → bodyLength kind = some n → body.length ≠ n →
        exec (.characterWithoutMark c) s = .next (s.replied kind tag ⟨.badLength, false,
          if 30 ≤ kind.toNat ∧ kind.toNat ≤ 33 then [BitVec.ofNat 8 s.line.state.code] else []⟩))))

/-- A reception error is counted, raises LINK_ERROR with its kind, and abandons the frame under way (R182). A good frame of a
Kind outside the catalogue is answered BAD_KIND; a broadcast that is not taken is counted not-mine (R184, R186). The gap passes
where its deadline is present (log 16). -/
def Obligations.ReceptionErrors : Prop :=
  (∀ s : State,
    (s.link.rx = .hunt ∨ s.link.rx = .skipping → exec .framing s = .next { s with
      link := { s.link with framingErrors := min 65535 (s.link.framingErrors + 1) }
      arb := s.arb.raise s.clock srcLinkError none (some (.link .framing)) })
    ∧ (s.link.rx = .receiving → exec .framing s = .next { s with
      link := { s.link with
        rx := .hunt, buffer := [], checkHigh := none, expected := none, gap := false
        framingErrors := min 65535 (s.link.framingErrors + 1) }
      arb := s.arb.raise s.clock srcLinkError none (some (.link .framing)) })
    ∧ (s.link.rx = .receiving → s.link.gap = true → exec .gap s = .next { s with
      link := { s.link with
        rx := .hunt, buffer := [], checkHigh := none, expected := none, gap := false
        gapErrors := min 65535 (s.link.gapErrors + 1) }
      arb := s.arb.raise s.clock srcLinkError none (some (.link .gap)) })
    ∧ (s.link.rx = .receiving → ∀ x : CheckCause, exec (.check x) s = .next { s with
      link := { s.link with
        rx := if x = .mismatch then .hunt else .skipping
        buffer := [], checkHigh := none, expected := none, gap := false
        checkErrors := min 65535 (s.link.checkErrors + 1) }
      arb := s.arb.raise s.clock srcLinkError none (some (.link .check)) }))
  ∧
  (∀ s : State, s.link.rx ≠ .replying →
    (∀ tag kind : Byte, kind.toNat = 0 ∨ 34 < kind.toNat →
      exec (.badKind tag kind) s = .next (s.replied kind tag (bare .badKind)))
    ∧ (∀ kind length : Byte, ¬((kind = 31 ∨ kind = 32) ∧ length = 0) →
      exec (.broadcastIgnored kind length) s = .next { s with
        link := { s.link with
          rx := .hunt, buffer := [], checkHigh := none, expected := none, gap := false
          notMine := min 65535 (s.link.notMine + 1) } }))

/-- The reply due goes out as address 0 with its mark bit set and its frame with every mark bit clear, and the end of it
frees the line (R178, R185, R187, R191). The check over the
nine characters 31H to 39H is 29B1H, and a frame that differs in one covered character has another check (R181). -/
def Obligations.RepliesAndTheirCheck : Prop :=
  (∀ s : State, s.link.rx = .replying →
    (∀ r : Reply, s.link.reply = some r → s.link.tx = [] →
      exec .replyStart s = .next { s with link := { s.link with
        tx := ⟨true, 0⟩ :: (frameChars r.kind r.tag r.body).map fun c => ⟨false, c⟩ } })
    ∧ (s.link.tx ≠ [] →
      exec .replyEnd s = .next { s with link := { s.link with rx := .hunt, reply := none, tx := [] } }))
  ∧
  (crc [49, 50, 51, 52, 53, 54, 55, 56, 57] = 0x29B1
    ∧ ∀ (u v : List Byte) (c d : Byte), c ≠ d → crc (u ++ c :: v) ≠ crc (u ++ d :: v))

/-- Device reset: the straps are sampled (their meaning: log 9), every block is as after reset with the line in INITIAL, and the
pins, the counter of free values and the waiting commands stay (logs 8, 21, 25). An asserted EMERGENCY STOP is read in the
first step after it, as the input becoming asserted, whatever waits (R166, R170, R177; log 10). -/
def Obligations.DeviceReset : Prop :=
  ∀ (s : State) (addr : BitVec 5) (rate stations : Bool), ∃ t : State,
    exec (.deviceReset addr rate stations) s = .next t
    ∧ t = { State.fresh (if addr = 0 ∨ addr = 31 then 1 else addr) rate stations with
            pins := s.pins, free := s.free, pending := t.pending }
    ∧ t.line.state = .initial ∧ t.line.emergencyMark = false
    ∧ (s.pins.emergencyStop = false → t.pending = s.pending)
    ∧ (s.pins.emergencyStop = true → step t = .next { t with
        pending := s.pending
        line := { state := .stop, emergencyMark := true }
        arb := t.arb.raise 0 srcEmergency none (some (.line .initial)) })

/-- What device reset leaves (R83, R92, R113, R120, R121, R139, R141, R147, R150 to R153, R164, R166, R177, R183, R189), and the
ranges of the configuration items (R189): an item's row gives its default, its range and, for a duration sent in seconds,
the 1000 ms it is held in. The flow divider's range is nominal (R149). The copied T_nf is absent by the model's choice
(log 35), and no tick is due (log 4). -/
def Obligations.ResetValues : Prop :=
  ((List.finRange 44).map itemRow
    = [⟨120, 10, 600, 1000⟩, ⟨20, 5, 120, 1000⟩, ⟨2, 1, 10, 1000⟩, ⟨5, 1, 60, 1000⟩, ⟨400, 50, 900, 1⟩, ⟨10, 1, 120, 1000⟩,
       ⟨600, 60, 3600, 1000⟩, ⟨30, 5, 300, 1000⟩, ⟨100, 10, 1000, 1⟩, ⟨60, 0, 600, 1000⟩]
      ++ List.replicate 4 ⟨450000, 1000, 500000, 1⟩
      ++ [⟨20, 0, 1000, 1⟩, ⟨900, 500, 1000, 1⟩, ⟨10, 2, 60, 1000⟩, ⟨60, 10, 600, 1000⟩, ⟨10, 2, 60, 1000⟩,
       ⟨1800000, 100000, 2000000, 1⟩, ⟨400, 100, 1500, 1⟩, ⟨600, 100, 2000, 1⟩, ⟨800, 200, 2500, 1⟩, ⟨200, 10, 900, 1⟩,
       ⟨400, 20, 1000, 1⟩, ⟨30, 5, 300, 1000⟩, ⟨300, 0, 2000, 1⟩, ⟨100, 0, 1000, 1⟩, ⟨10, 2, 120, 1000⟩, ⟨20, 0, 1000, 1⟩]
      ++ [⟨250, 100, 1000, 1⟩, ⟨40, 1, 240, 1⟩, ⟨1000, 200, 5000, 1⟩, ⟨4, 1, 16, 1⟩, ⟨100, 1, 10000, 1⟩, ⟨18, 1, 255, 1⟩,
       ⟨700, 0, 1000, 1⟩, ⟨50, 1, 5000, 1⟩]
      ++ ([1500, 2500, 3500, 4500, 6000, 8000] : List Nat).map fun f => ⟨f, 1, 65535, 1⟩)
  ∧ ∀ (s : State) (address : BitVec 5) (fast four : Bool), s = State.fresh address fast four →
    (∀ i, s.item i = (itemRow i).dflt * (itemRow i).scale)
    ∧ (∀ c : ChannelNo, ∃ (span : Int) (band : Nat),
      s.channel c = { zero := 0, span := span, low := 0, high := span, band := band, status := .noData, raw := none
                      value := 0, ring := [] }
      ∧ (c.val < 8 → c.val % 2 = 0 → span = 500000 ∧ band = 20) ∧ (c.val < 8 → c.val % 2 = 1 → span = 10000 ∧ band = 0)
      ∧ (c.val = 8 → span = 2500 ∧ band = 0) ∧ (c.val = 9 → span = 1000 ∧ band = 0)
      ∧ (c.val = 10 → span = 2000000 ∧ band = 200) ∧ (c.val = 11 → span = 5000 ∧ band = 0)
      ∧ (12 ≤ c.val → span = 50000 ∧ band = 10))
    ∧ (∀ i : SourceNo, ∃ l, s.arb.sources[i] = ⟨l, none, false, none, none, false⟩ ∧ (i.val ≤ 1 → l = some 3)
      ∧ (2 ≤ i.val → i.val ≤ 10 → l = some 2) ∧ (11 ≤ i.val → i.val ≤ 12 ∨ i.val = 19 → l = some 1)
      ∧ (13 ≤ i.val → i.val ≤ 18 → l = some 0) ∧ (i.val = 20 → l = none)
      ∧ (sourceIsLevel i = true ↔ 7 ≤ i.val ∧ i.val ≤ 11 ∨ i.val = 18))
    ∧ s.arb.mask = 0 ∧ s.arb.attention = 1 ∧ s.arb.queue = [] ∧ s.arb.saved = none
    ∧ (∀ i : Slot, s.record i = none) ∧ s.table.seqCtr = 0 ∧ s.table.relCtr = 0 ∧ s.table.shredQueue = []
    ∧ s.table.feeding = none ∧ s.table.openSet = [] ∧ s.table.closedList = [] ∧ s.table.saved = none
    ∧ (∀ n : StationNo, ∃ a b c d, s.station n = {
        state := .idle, bound := none, pierced := false, probeTaken := false, attemptClass := none, tareReceiver := none
        tareOil := none, finalReceiver := none, finalOil := none, rises := 0, dwellStart := none, riseRef := none
        endCause := none, faultCause := none, receiver := ⟨none, 0, 0, false⟩, deadline := none, probeDeadline := none
        copyTarget := a, copyDwell := b, copyFill := c, copyRise := d })
    ∧ s.feeder = ⟨.idle, none, none, none, none⟩
    ∧ s.atm = { state := .air, demand := false, hostHold := false, latest := none, holdStart := none, holdLength := none
                marginLost := false, tripCauses := none, duty := 0, highDutyStart := none, highDutyLength := none, noFlow := false }
    ∧ s.foam = ⟨none, 0, .noDrain, none, false, none⟩
    ∧ s.totals = Vector.replicate 20 ⟨0, false⟩ ∧ s.totalsStart = 0 ∧ s.clock = 0
    ∧ s.scan.next = 0 ∧ s.scan.due = 2 ∧ s.scan.pass = none ∧ s.period = ⟨250, none, 0⟩
    ∧ s.flow = ⟨0, none, none, false, 0⟩ ∧ s.pwm = ⟨0, 1000, 0, 0, false⟩ ∧ s.line = ⟨.initial, false⟩
    ∧ s.link.address = address ∧ s.link.fast = fast ∧ s.fitted4 = four ∧ s.link.rx = .hunt ∧ s.link.buffer = []
    ∧ s.link.gap = false ∧ s.link.good = 0 ∧ s.link.notMine = 0 ∧ s.link.framingErrors = 0 ∧ s.link.gapErrors = 0
    ∧ s.link.checkErrors = 0 ∧ s.link.reply = none ∧ s.link.tx = []

/-! ### Notices (chapter 9) -/

/-- Posting goes on until no source is eligible; it takes the eligible source of highest level, the lowest index
among equals, and forms one notice from it at the tail (R158 to R160). -/
def Obligations.PostingTakesTheHighest : Prop :=
  ∀ a : Arbiter,
    (∀ (i : SourceNo) (l : Fin 4), a.eligibleLevel i = some l ↔
      a.sources[i].pending.isSome = true ∧ a.sources[i].level = some l ∧ a.mask ≤ l ∧ a.queue.length < 32
        ∧ (l = 3 ∨ (a.queue.filter fun n => decide (n.level.val ≤ 2)).length < 28))
    ∧ a.post.best = none
    ∧ ((∀ i, a.eligibleLevel i = none) → a.post = a)
    ∧ (∀ (i : SourceNo) (l : Fin 4) (p : Pending), a.eligibleLevel i = some l → a.sources[i].pending = some p →
      (∀ j m, a.eligibleLevel j = some m → m < l ∨ m = l ∧ i ≤ j) →
      a.post = Arbiter.post { a with
        sources := a.sources.set i { a.sources[i] with
          pending := none, posted := a.sources[i].posted || sourceIsLevel i }
        queue := a.queue ++ [⟨i, l, p.time, p.subject, p.value, p.repeats⟩] })

/-- Where all that can be posted is posted. A raise of an EDGE source: a DISABLED source ignores it; a pending one counts a
repeat; otherwise it is posted at once, or stays pending where it is masked or has no room (R154, R159). A LEVEL source
follows its condition: becoming true it is posted once, or stays pending; becoming false it cancels what is pending (R155);
no change, no report (the model's reading of log 26). -/
def Obligations.RaisesAndReports : Prop :=
  (∀ (a : Arbiter) (now : Time) (i : SourceNo) (x : Option Nat) (v : Option Value),
    (∀ j, a.eligibleLevel j = none) → sourceIsLevel i = false →
    (a.sources[i].level = none → a.raise now i x v = a)
    ∧ (∀ l p, a.sources[i].level = some l → a.sources[i].pending = some p → p.repeats ≤ 255 →
      a.raise now i x v = { a with
        sources := a.sources.set i { a.sources[i] with pending := some { p with repeats := min 255 (p.repeats + 1) } } })
    ∧ (∀ l, a.sources[i].level = some l → a.sources[i].pending = none →
      (a.mask ≤ l ∧ a.queue.length < 32 ∧ (l = 3 ∨ (a.queue.filter fun n => decide (n.level.val ≤ 2)).length < 28) →
        a.raise now i x v = { a with queue := a.queue ++ [⟨i, l, now, x, v, 0⟩] })
      ∧ (l < a.mask ∨ 32 ≤ a.queue.length ∨ l ≠ 3 ∧ 28 ≤ (a.queue.filter fun n => decide (n.level.val ≤ 2)).length →
        a.raise now i x v = { a with
          sources := a.sources.set i { a.sources[i] with pending := some ⟨now, x, v, 0⟩ } })))
  ∧
  (∀ (a : Arbiter) (now : Time) (i : SourceNo) (x : Option Nat) (v : Option Value),
    (∀ j, a.eligibleLevel j = none) → sourceIsLevel i = true →
    (∀ b, a.sources[i].cond = b → a.report now i b x v = a)
    ∧ (a.sources[i].cond = true → a.report now i false x v = { a with
        sources := a.sources.set i { a.sources[i] with cond := false, posted := false, pending := none } })
    ∧ (a.sources[i].cond = false → a.sources[i].level = none → a.sources[i].pending = none →
      a.report now i true x v = { a with
        sources := a.sources.set i { a.sources[i] with cond := true, lastSubject := x, lastValue := v, posted := false } })
    ∧ (∀ l, a.sources[i].cond = false → a.sources[i].level = some l →
      (a.mask ≤ l ∧ a.queue.length < 32 ∧ (l = 3 ∨ (a.queue.filter fun n => decide (n.level.val ≤ 2)).length < 28) →
        a.report now i true x v = { a with
          sources := a.sources.set i { a.sources[i] with
            cond := true, lastSubject := x, lastValue := v, posted := true, pending := none }
          queue := a.queue ++ [⟨i, l, now, x, v, 0⟩] })
      ∧ (l < a.mask ∨ 32 ≤ a.queue.length ∨ l ≠ 3 ∧ 28 ≤ (a.queue.filter fun n => decide (n.level.val ≤ 2)).length →
        a.report now i true x v = { a with
          sources := a.sources.set i { a.sources[i] with
            cond := true, lastSubject := x, lastValue := v, posted := false, pending := some ⟨now, x, v, 0⟩ } })))

/-- SET SOURCE gives a source of index 2 to 20 the level sent, 3 to 254 taken as 2 with CLAMPED, 255 as DISABLED; a
source going DISABLED loses what is pending, and a LEVEL source leaving DISABLED in a true condition is pending again;
then what is eligible is posted. Any other index is refused BAD_FIELD (R156); the layout of the pending record in the
reply is the model's reading (log 27). SET MASK takes both levels, above 3 as 3 with CLAMPED, and posts what has become
eligible (R157). TAKE NOTICES removes up to eight notices from the head, saves them with its Tag, and posts what now has
room; with the Tag of the saved take it gives the same notices again and removes none (R161, R162). -/
def Obligations.ArbiterRequests : Prop :=
  (∀ (s : State) (tag index level : Byte), s.link.rx ≠ .replying →
    (index.toNat < 2 ∨ 20 < index.toNat →
      exec (.setSource tag index level) s = .next (s.replied 24 tag (bare .badField)))
    ∧ (∀ (i : SourceNo) (l : Option (Fin 4)), 2 ≤ i.val → index.toNat = i.val →
      (level.toNat = 255 ∧ l = none ∨ (∃ k : Fin 4, k.val ≤ 2 ∧ level.toNat = k.val ∧ l = some k)
        ∨ 3 ≤ level.toNat ∧ level.toNat ≤ 254 ∧ l = some 2) →
      ∃ a : Arbiter, a = Arbiter.post { s.arb with
          sources := s.arb.sources.set i { s.arb.sources[i] with
            level := l
            pending :=
              if l = none ∧ s.arb.sources[i].level ≠ none then none
              else if l ≠ none ∧ s.arb.sources[i].level = none then
                if sourceIsLevel i = true ∧ s.arb.sources[i].cond = true then
                  some ⟨s.clock, s.arb.sources[i].lastSubject, s.arb.sources[i].lastValue, 0⟩
                else none
              else s.arb.sources[i].pending
            posted := if l = none ∧ s.arb.sources[i].level ≠ none then false else s.arb.sources[i].posted } }
        ∧ exec (.setSource tag index level) s = .next (State.replied { s with arb := a } 24 tag
          ⟨.done, decide (3 ≤ level.toNat ∧ level.toNat ≤ 254),
            index :: (if l = none then 255 else BitVec.ofNat 8 (min level.toNat 2)) :: pendingChars a.sources[i].pending⟩)))
  ∧
  (∀ (s : State) (tag : Byte), s.link.rx ≠ .replying →
    (∀ (mask attention : Byte) (m x : Fin 4), m.val = min 3 mask.toNat → x.val = min 3 attention.toNat →
      exec (.setMask tag mask attention) s = .next (State.replied
        { s with arb := Arbiter.post { s.arb with mask := m, attention := x } } 25 tag
        ⟨.done, decide (3 < mask.toNat ∨ 3 < attention.toNat), [BitVec.ofNat 8 m.val, BitVec.ofNat 8 x.val]⟩))
    ∧ ((∀ p ∈ s.arb.saved, p.1 ≠ tag) →
      ∃ a : Arbiter, a = { Arbiter.post { s.arb with queue := s.arb.queue.drop 8 } with saved := some (tag, s.arb.queue.take 8) }
        ∧ exec (.takeNotices tag) s = .next (State.replied { s with arb := a } 26 tag
          ⟨.done, false, BitVec.ofNat 8 (min 8 s.arb.queue.length) :: ((s.arb.queue.take 8).flatMap Notice.chars
            ++ [BitVec.ofNat 8 a.queue.length])⟩))
    ∧ (∀ ns, s.arb.saved = some (tag, ns) →
      exec (.takeNotices tag) s = .next (s.replied 26 tag
        ⟨.done, false, BitVec.ofNat 8 ns.length :: (ns.flatMap Notice.chars ++ [BitVec.ofNat 8 s.arb.queue.length])⟩)))
/-! ### The Appliance Table (chapters 1 and 6) -/

/-- ADMIT APPLIANCE is refused for an illegal field, then for an Ident already present, then for a full table (R7). One
that passes makes a record in the lowest empty slot, with the next sequence number, the charge limited to 20,000 with
CLAMPED, E from the Foam Table, and FLAMMABLE by its declaration (R3, R6, R8). Its reply holds R8's four fields, without
the charge as limited that R187 would show (the model's choice, log 33). -/
def Obligations.AdmitAppliance : Prop :=
  ∀ (s : State) (tag : Byte) (ident : Word) (declared : Byte) (charge : Word) (foamClass foamAgent : Byte),
    s.link.rx ≠ .replying →
    (ident = 0 ∨ declaredOf declared = none ∨ foamClassOf foamClass = none ∨ foamAgentOf foamAgent = none →
      exec (.admitAppliance tag ident declared charge foamClass foamAgent) s = .next (s.replied 1 tag (bare .badField)))
    ∧ (∀ (d : Declared) (fc : Fin 7) (fa : FoamAgent), ident ≠ 0 → declaredOf declared = some d →
      foamClassOf foamClass = some fc → foamAgentOf foamAgent = some fa →
      ((∃ j, ∃ q ∈ s.record j, q.ident = ident) →
        exec (.admitAppliance tag ident declared charge foamClass foamAgent) s
          = .next (s.replied 1 tag (bare .duplicateIdent)))
      ∧ ((∀ j, ∃ q ∈ s.record j, q.ident ≠ ident) →
        exec (.admitAppliance tag ident declared charge foamClass foamAgent) s
          = .next (s.replied 1 tag (bare .tableFull)))
      ∧ ∀ (i : Slot) (e : Nat) (fl : Bool), (∀ j, ∀ q ∈ s.record j, q.ident ≠ ident) →
        s.record i = none → (∀ j, j < i → s.record j ≠ none) →
        (fa = .noAgent ∨ fc = 0 → e = 0) →
        (∀ k : Fin 6, fa ≠ .noAgent → fc.val = k.val + 1 → e = s.item (iFoam k)) →
        (fl = true ↔ d = some .hydro ∨ d = none ∨ fa = .hydro ∨ fa = .unknown) →
        exec (.admitAppliance tag ident declared charge foamClass foamAgent) s = .next (State.replied { s with
          table := { s.table with
            slots := s.table.slots.set i (some {
              slot := i, ident := ident, seq := s.table.seqCtr, declared := d, charge := min charge.toNat 20000
              foamClass := fc, foamAgent := fa, expected := e, phase := .queued, attempts := 0, bound := none, used := []
              measured := none, mr := 0, mo := 0, rho := none, verdict := none, releaseOrder := none, feedTime := none
              ticks := none, foam := 0, gamma := none, foamVerdict := none, closeTime := none
              flags := { flammable := fl } })
            seqCtr := s.table.seqCtr + 1 }
          arb := s.arb.report s.clock srcNearlyFull (decide (44 ≤ s.recordCount + 1)) none
            (some (.number ((s.recordCount + 1 : Nat) : Int))) } 1 tag
          ⟨.done, decide (20000 < charge.toNat),
            BitVec.ofNat 8 i.val :: (word4 s.table.seqCtr ++ num4 e ++ [if fl = true then 1 else 0])⟩))

/-- QUERY APPLIANCE gives the record of a slot or of an Ident, 53 characters, and changes nothing (R22, R191). So with the
requests that only read: their content, at the length R53, R134, R189 and R190 give, and nothing else changed. A slot is its
four-character field read as one number (log 30); READ STATUS counts its own frame (log 19); a rise-retry count is one
character (log 15). -/
def Obligations.QueriesAndReads : Prop :=
  (∀ (s : State) (tag selector : Byte) (key : Word), s.link.rx ≠ .replying →
    (∀ i r, s.record i = some r → (selector = 2 ∧ key.toNat = i.val ∨
        selector = 1 ∧ key ≠ 0 ∧ r.ident = key ∧ ∀ j, ∀ q ∈ s.record j, q.ident = key → j = i) →
      exec (.queryAppliance tag selector key) s = .next (s.replied 2 tag (doneWith r.chars)) ∧ r.chars.length = 53)
    ∧ (selector = 1 ∧ key ≠ 0 ∧ (∀ j, ∀ q ∈ s.record j, q.ident ≠ key)
        ∨ selector = 2 ∧ (∃ i : Slot, key.toNat = i.val ∧ s.record i = none) →
      exec (.queryAppliance tag selector key) s = .next (s.replied 2 tag (bare .noSuchAppliance)))
    ∧ (selector ≠ 1 ∧ selector ≠ 2 ∨ selector = 1 ∧ key = 0 ∨ selector = 2 ∧ 47 < key.toNat →
      exec (.queryAppliance tag selector key) s = .next (s.replied 2 tag (bare .badField))))
  ∧
  (∀ (s : State) (tag : Byte), s.link.rx ≠ .replying →
    (exec (.readConfig tag) s = .next (s.replied 21 tag ⟨.done, false, s.configContent⟩) ∧ s.configContent.length = 199)
    ∧ (exec (.readStatus tag) s = .next (s.replied 27 tag
        ⟨.done, false, State.statusContent { s with link := { s.link with good := min 65535 (s.link.good + 1) } }⟩)
      ∧ s.statusContent.length = 84)
    ∧ (∀ station n, stationOf station = some n → s.fitted n = true →
      exec (.readStation tag station) s = .next (s.replied 12 tag ⟨.done, false, s.stationContent n⟩)
        ∧ (s.stationContent n).length = 47)
    ∧ (∀ station, stationOf station = none → exec (.readStation tag station) s = .next (s.replied 12 tag (bare .badField)))
    ∧ (∀ station n, stationOf station = some n → s.fitted n = false →
      exec (.readStation tag station) s = .next (s.replied 12 tag (bare .stationNotFitted)))
    ∧ (∀ (channel : Byte) (c : ChannelNo), channel.toNat = c.val →
      exec (.readChannel tag channel) s = .next (s.replied 23 tag ⟨.done, false, (s.channel c).content c.val⟩)
        ∧ ((s.channel c).content c.val).length = 65)
    ∧ (∀ channel : Byte, 15 < channel.toNat → exec (.readChannel tag channel) s = .next (s.replied 23 tag (bare .badField))))

/-- The contents of READ CONFIG (R189), READ STATUS (R190), READ STATION (R53) and READ CHANNEL (R134), field by field at the
offsets that the order and the widths of R188 give: `one k x` is a character at offset k, `four k w` a number of four, high
first, `opt k w` an optional number, its presence before it. A rise-retry count and a ring count are one character (log 15). -/
def Obligations.ReadContents : Prop :=
  ∀ (s : State) (content : List Byte) (one : Nat → Nat → Prop) (four : Nat → Word → Prop) (opt : Nat → Option Word → Prop)
    (num : Nat → Word) (int : Int → Word) (mark : Bool → Nat),
    (∀ k x, one k x ↔ content[k]? = some (BitVec.ofNat 8 x)) →
    (∀ k w, four k w ↔ (content.drop k).take 4
      = [w.extractLsb' 24 8, w.extractLsb' 16 8, w.extractLsb' 8 8, w.extractLsb' 0 8]) →
    (∀ k w, opt k w ↔ one k (mark w.isSome) ∧ four (k + 1) (w.getD 0)) →
    (∀ x, num x = BitVec.ofNat 32 x) → (∀ x, int x = BitVec.ofInt 32 x) → (∀ b, mark b = if b = true then 1 else 0) →
    (content = s.configContent →
      (∀ i : Item, four (4 * i.val) (num (s.item i / (itemRow i).scale)))
      ∧ (∀ i : SourceNo, one (176 + i.val) ((s.arb.sources[i].level.map Fin.val).getD 255))
      ∧ one 197 s.arb.mask.val ∧ one 198 s.arb.attention.val)
    ∧ (content = s.statusContent →
      one 0 s.line.state.code ∧ one 1 (mark s.pins.emergencyStop) ∧ one 2 s.atm.state.code
      ∧ opt 3 (s.atm.latest.map fun r => int r.o2) ∧ opt 8 (s.atm.latest.map fun r => int r.lfl)
      ∧ four 13 (num s.atm.duty) ∧ four 17 (num s.pwm.active)
      ∧ one 21 s.feeder.state.code ∧ one 22 ((s.feeder.jam.map JamCause.code).getD 0) ∧ opt 23 s.feeder.lastFeed
      ∧ one 28 (mark s.pins.gateClosed) ∧ one 29 (mark s.pins.beam) ∧ one 30 (mark s.pins.shredderRunning)
      ∧ (∀ n : StationNo, one (31 + n.val) (s.station n).state.code)
      ∧ four 35 (num s.flowRate) ∧ four 39 (num s.flow.overwrites)
      ∧ four 43 (int (s.channel 10).value) ∧ four 47 (num s.foam.debt) ∧ four 51 (num s.totals[totPool].value)
      ∧ one 55 s.foam.drain.code ∧ one 56 s.recordCount ∧ one 57 s.table.shredQueue.length ∧ one 58 s.table.openSet.length
      ∧ one 59 s.arb.queue.length ∧ four 60 (num s.link.good) ∧ four 64 (num s.link.notMine)
      ∧ four 68 (num s.link.framingErrors) ∧ four 72 (num s.link.gapErrors) ∧ four 76 (num s.link.checkErrors)
      ∧ four 80 s.clock)
    ∧ (∀ (n : StationNo) (x : Station), x = s.station n → content = s.stationContent n →
      one 0 x.state.code ∧ one 1 (mark x.bound.isSome) ∧ one 2 ((x.bound.map Fin.val).getD 0)
      ∧ one 3 ((x.faultCause.map FaultCause.code).getD 0) ∧ one 4 ((x.endCause.map EndCause.code).getD 0) ∧ one 5 x.rises
      ∧ one 6 (mark x.pierced) ∧ one 7 (mark x.probeTaken) ∧ one 8 ((x.attemptClass.map Gas.code).getD 0)
      ∧ opt 9 (x.tareReceiver.map int) ∧ opt 14 (x.tareOil.map int) ∧ opt 19 (x.finalReceiver.map int)
      ∧ opt 24 (x.finalOil.map int) ∧ four 29 (int (s.channel ⟨2 * n.val, by omega⟩).value)
      ∧ four 33 (num (s.item ⟨10 + n.val, by omega⟩)) ∧ one 37 ((x.receiver.assigned.map Gas.code).getD 0)
      ∧ four 38 (num x.receiver.credited) ∧ four 42 (num x.receiver.count) ∧ one 46 (mark x.receiver.contaminated))
    ∧ (∀ (c : ChannelNo) (x : Channel), x = s.channel c → x.ring.length ≤ 8 → content = x.content c.val →
      one 0 c.val ∧ one 1 x.status.code ∧ opt 2 (x.raw.map fun r => num r.toNat) ∧ four 7 (int x.value)
      ∧ one 11 x.ring.length ∧ (∀ k : Fin 8, four (12 + 4 * k.val) (int ((x.ring[k.val]?).getD 0)))
      ∧ one 44 (mark x.settled) ∧ four 45 (int x.zero) ∧ four 49 (int x.span) ∧ four 53 (int x.low) ∧ four 57 (int x.high)
      ∧ four 61 (num x.band))

/-- The appliance record and its first fifty characters, the closing record, field by field with the two bit fields (R191); the
notice, its presence and the word of its value, the codes of the reply statuses (R187) and of the enumerations (R192); the pending record of a SET SOURCE
reply, each field but the first with its presence before it (R188, log 27). -/
def Obligations.Layouts : Prop :=
  (∀ (content : List Byte) (one : Nat → Nat → Prop) (two : Nat → Nat → Prop) (four : Nat → Word → Prop)
    (bits : Nat → List Bool → Prop),
    (∀ k x, one k x ↔ content[k]? = some (BitVec.ofNat 8 x)) →
    (∀ k x, two k x ↔ (content.drop k).take 2 = [BitVec.ofNat 8 (x / 256), BitVec.ofNat 8 x]) →
    (∀ k w, four k w ↔ (content.drop k).take 4
      = [w.extractLsb' 24 8, w.extractLsb' 16 8, w.extractLsb' 8 8, w.extractLsb' 0 8]) →
    (∀ k bs, bits k bs ↔ ∃ w : BitVec 16, two k w.toNat ∧ ∀ b, w.getLsbD b = bs.getD b false) →
    (∀ r : Record, content = r.chars →
      r.closingChars = content.take 50 ∧ one 0 r.slot.val ∧ four 1 r.ident ∧ four 5 r.seq
      ∧ one 9 ((r.declared.map Gas.code).getD 4) ∧ two 10 r.charge ∧ one 12 r.foamClass.val ∧ one 13 r.foamAgent.code
      ∧ two 14 r.expected ∧ one 16 r.attempts ∧ one 17 ((r.used[0]?.map fun n => n.val + 1).getD 0)
      ∧ one 18 ((r.used[1]?.map fun n => n.val + 1).getD 0) ∧ one 19 ((r.measured.map Gas.code).getD 0) ∧ two 20 r.mr
      ∧ two 22 r.mo ∧ two 24 (r.rho.getD 0) ∧ one 26 ((r.verdict.map Verdict.code).getD 0) ∧ four 27 (r.releaseOrder.getD 0)
      ∧ four 31 (r.feedTime.getD 0) ∧ four 35 (BitVec.ofNat 32 r.foam) ∧ two 39 (r.gamma.getD 0)
      ∧ one 41 ((r.foamVerdict.map FoamVerdict.code).getD 0) ∧ four 42 (r.closeTime.getD 0)
      ∧ bits 46 [r.flags.classMismatch, r.flags.classUndetermined, r.flags.evacTimeout, r.flags.outgassing,
        r.flags.unsettledFinal, r.flags.negativeClamped, r.flags.massSaturated, r.flags.ratioSaturated, r.flags.drainGap,
        r.flags.sensorGap, r.flags.breakthrough, r.flags.tripDuringWindow, r.flags.feedClearedByHost, r.flags.flammable]
      ∧ bits 48 [r.bound.isSome, r.measured.isSome, r.rho.isSome, r.verdict.isSome, r.releaseOrder.isSome,
        r.feedTime.isSome, r.ticks.isSome, r.gamma.isSome, r.foamVerdict.isSome, r.closeTime.isSome]
      ∧ one 50 r.phase.code ∧ one 51 ((r.bound.map fun n => n.val + 1).getD 0) ∧ one 52 (r.ticks.getD 0))
    ∧ (∀ n : Notice, content = n.chars →
      content.length = 13 ∧ one 0 n.source.val ∧ one 1 n.level.val ∧ four 2 n.time
      ∧ one 6 ((if n.subject.isSome = true then 1 else 0) + if n.value.isSome = true then 2 else 0)
      ∧ one 7 (n.subject.getD 0) ∧ four 8 ((n.value.map Value.word).getD 0) ∧ one 12 n.repeats)
    ∧ (∀ p : Option Pending, content = pendingChars p →
      content.length = 15 ∧ one 0 (if p.isSome = true then 1 else 0)
      ∧ one 1 (if p.isSome = true then 1 else 0) ∧ four 2 ((p.map Pending.time).getD 0)
      ∧ one 6 (if (p.bind Pending.subject).isSome = true then 1 else 0) ∧ one 7 ((p.bind Pending.subject).getD 0)
      ∧ one 8 (if (p.bind Pending.value).isSome = true then 1 else 0)
      ∧ four 9 (((p.bind Pending.value).map Value.word).getD 0)
      ∧ one 13 (if p.isSome = true then 1 else 0) ∧ one 14 ((p.map Pending.repeats).getD 0)))
  ∧ (∀ (i : Word) (x : Int) (g : Gas) (v : Verdict) (l : LineState) (c : TripCauses) (fc : FaultCause) (j : JamCause),
    Value.word (.ident i) = i ∧ Value.word (.number x) = BitVec.ofInt 32 x ∧ Value.word (.gas g) = BitVec.ofNat 32 g.code
    ∧ Value.word (.verdict v) = BitVec.ofNat 32 v.code ∧ Value.word (.line l) = BitVec.ofNat 32 l.code
    ∧ Value.word (.fault fc) = BitVec.ofNat 32 fc.code ∧ Value.word (.jam j) = BitVec.ofNat 32 j.code
    ∧ (∀ b, (Value.word (.trip c)).getLsbD b = [c.lflHigh, c.o2High, c.sensor].getD b false))
  ∧ [Status.done, .accepted, .badKind, .badLength, .badField, .lineState, .wrongPhase, .busy, .emergencyActive,
      .tripConditions, .gateOpen, .tableFull, .duplicateIdent, .noSuchAppliance, .stationBusy, .stationNotFitted,
      .attemptsSpent, .receiverFull, .classConflict].map Status.code
    = [0, 1, 16, 17, 18, 32, 33, 34, 35, 36, 37, 48, 49, 50, 64, 65, 66, 67, 68]
  ∧ [Gas.chloro, .fluoro, .hydro].map Gas.code = [1, 2, 3]
  ∧ [FoamAgent.noAgent, .chloro, .hydro, .unknown].map FoamAgent.code = [0, 1, 3, 4]
  ∧ [Phase.queued, .extracting, .extracted, .shredWait, .feeding, .shredding, .closed].map Phase.code = [1, 2, 3, 4, 5, 6, 7]
  ∧ [Verdict.complete, .short, .empty, .unrated, .waived, .conflict].map Verdict.code = [1, 2, 3, 4, 5, 6]
  ∧ [FoamVerdict.adequate, .low, .noFoam, .notShredded].map FoamVerdict.code = [1, 2, 3, 4]
  ∧ [LineState.initial, .run, .hold, .stop].map LineState.code = [1, 2, 3, 4]
  ∧ [AtmState.air, .inerting, .inert, .tripped, .recovering].map AtmState.code = [1, 2, 3, 4, 5]
  ∧ [FeederState.idle, .waitPermit, .opening, .passing, .closing, .jammed].map FeederState.code = [1, 2, 3, 4, 5, 6]
  ∧ [StationState.idle, .clamping, .taring, .piercing, .evacuating, .riseTest, .drainingOil, .weighing, .awaitUnclamp,
      .abortWeighing, .faulted].map StationState.code = [1, 2, 3, 4, 5, 6, 7, 8, 9, 10, 11]
  ∧ [JamCause.feedJam, .gateStuck, .trip, .stop].map JamCause.code = [1, 2, 3, 4]
  ∧ [FaultCause.clampTimeout, .scaleUnsettled, .receiverFull, .clampOpened].map FaultCause.code = [1, 2, 3, 4]
  ∧ [EndCause.abort, .stop, .clampOpened, .conflict, .undetermined, .receiverFull].map EndCause.code = [1, 2, 3, 4, 5, 6]
  ∧ [ChannelStatus.noData, .ok, .faultLow, .faultHigh].map ChannelStatus.code = [1, 2, 3, 4]
  ∧ [DrainState.noDrain, .active, .ended].map DrainState.code = [1, 2, 3]
  ∧ [Margin.o2, .lfl, .both].map (fun m => Value.word (.margin m)) = [1, 2, 3]
  ∧ [Side.low, .high].map (fun x => Value.word (.side x)) = [1, 2]
  ∧ [LinkError.framing, .gap, .check, .short].map (fun e => Value.word (.link e)) = [1, 2, 3, 4]

/-- LIST TABLE gives one entry for each occupied slot in ascending order: its bit, its Ident and its phase (R23, in
the packing of R188), and changes nothing. -/
def Obligations.ListTable : Prop :=
  ∀ (s : State) (tag : Byte), s.link.rx ≠ .replying → ∃ content : List Byte,
    exec (.listTable tag) s = .next (s.replied 3 tag ⟨.done, false, content⟩)
      ∧ s.recordCount ≤ 48
      ∧ content.length = 6 + 4 * s.recordCount + (s.recordCount + 1) / 2
      ∧ ∀ i : Slot, ∃ occupied, content[i.val / 8]? = some occupied
        ∧ occupied.getLsbD (7 - i.val % 8) = (s.record i).isSome
        ∧ ∀ r, s.record i = some r → ∀ k, k = ((allSlots.take i.val).filter fun j => (s.record j).isSome).length →
          (content.drop (6 + 4 * k)).take 4 = word4 r.ident
            ∧ ∃ c, content[6 + 4 * s.recordCount + k / 2]? = some c
              ∧ (c.toNat / (if k % 2 = 0 then 16 else 1)) % 16 = r.phase.code

/-- WITHDRAW closes an appliance in QUEUED, EXTRACTED or SHRED_WAIT with foam verdict NOT_SHREDDED: it leaves the
shred queue, joins the closed list, is counted, and APPLIANCE_CLOSED is raised; it is refused in any other phase (R19,
R116). RELEASE TO SHRED moves an EXTRACTED appliance to the tail of the shred queue with the next release order (R12); an
idle Feeder enters WAIT_PERMIT and judges its permit there (R72, R73), within the step (log 13). -/
def Obligations.WithdrawAndRelease : Prop :=
  (∀ (s : State) (tag : Byte) (ident : Word), s.link.rx ≠ .replying →
    (ident = 0 → exec (.withdraw tag ident) s = .next (s.replied 4 tag (bare .badField)))
    ∧ (ident ≠ 0 → (∀ j, ∀ q ∈ s.record j, q.ident ≠ ident) →
      exec (.withdraw tag ident) s = .next (s.replied 4 tag (bare .noSuchAppliance)))
    ∧ (∀ i r, ident ≠ 0 → s.record i = some r → r.ident = ident → (∀ j, ∀ q ∈ s.record j, q.ident = ident → j = i) →
      (r.phase ≠ .queued ∧ r.phase ≠ .extracted ∧ r.phase ≠ .shredWait →
        exec (.withdraw tag ident) s = .next (s.replied 4 tag (bare .wrongPhase)))
      ∧ (r.phase = .queued ∨ r.phase = .extracted ∨ r.phase = .shredWait →
        ∃ (q : Record) (t : State),
          q = { r with phase := .closed, ticks := none, foamVerdict := some .notShredded, closeTime := some s.clock }
          ∧ t = State.addClose { s with table := { s.table with
              slots := s.table.slots.set i (some q)
              shredQueue := s.table.shredQueue.filter (· ≠ i)
              openSet := s.table.openSet.filter (· ≠ i)
              closedList := s.table.closedList ++ [i] } } q
          ∧ (s.table.shredQueue.head? ≠ some i → exec (.withdraw tag ident) s = .next (State.replied
              { t with arb := t.arb.raise s.clock srcClosed (some i.val) (some (.ident ident)) } 4 tag (bare .done)))
          ∧ (s.table.shredQueue.head? = some i → exec (.withdraw tag ident) s = .next (State.replied
              (State.judgePermit { t with arb := t.arb.raise s.clock srcClosed (some i.val) (some (.ident ident)) }) 4 tag
              (bare .done))))))
  ∧
  (∀ (s : State) (tag : Byte) (ident : Word), s.link.rx ≠ .replying →
    (ident = 0 → exec (.releaseToShred tag ident) s = .next (s.replied 5 tag (bare .badField)))
    ∧ (ident ≠ 0 → (∀ j, ∀ q ∈ s.record j, q.ident ≠ ident) →
      exec (.releaseToShred tag ident) s = .next (s.replied 5 tag (bare .noSuchAppliance)))
    ∧ ∀ (i : Slot) (r : Record), ident ≠ 0 → s.record i = some r → r.ident = ident →
      (∀ j, ∀ q ∈ s.record j, q.ident = ident → j = i) →
      (r.phase ≠ .extracted → exec (.releaseToShred tag ident) s = .next (s.replied 5 tag (bare .wrongPhase)))
      ∧ (r.phase = .extracted → ∃ (t : State) (a : Answer),
        t = { s with table := { s.table with
          slots := s.table.slots.set i (some { r with phase := .shredWait, releaseOrder := some s.table.relCtr })
          relCtr := s.table.relCtr + 1
          shredQueue := s.table.shredQueue ++ [i] } }
        ∧ a = ⟨.done, false, word4 s.table.relCtr ++ [BitVec.ofNat 8 (s.table.shredQueue.length + 1)]⟩
        ∧ (s.feeder.state ≠ .idle → exec (.releaseToShred tag ident) s = .next (t.replied 5 tag a))
        ∧ (s.feeder.state = .idle → exec (.releaseToShred tag ident) s = .next (State.replied (State.judgePermit
          { t with feeder := { t.feeder with state := .waitPermit, copied := none, deadline := none } }) 5 tag a))))

/-- TAKE CLOSED removes up to four appliances from the head of the closed list and saves them with its Tag; with the Tag
of the saved take it gives the same records again and removes none (R111, R112). -/
def Obligations.TakeClosed : Prop :=
  ∀ (s : State) (tag : Byte), s.link.rx ≠ .replying →
    (∀ rs, s.table.saved = some (tag, rs) →
      exec (.takeClosed tag) s = .next (s.replied 6 tag ⟨.done, false,
        BitVec.ofNat 8 rs.length :: (rs.flatMap Record.closingChars ++ [BitVec.ofNat 8 s.table.closedList.length])⟩))
    ∧ ((∀ p ∈ s.table.saved, p.1 ≠ tag) → (∀ i ∈ s.table.closedList, s.record i ≠ none) → s.table.closedList.Nodup →
      ∃ t : State, exec (.takeClosed tag) s = .next (t.replied 6 tag ⟨.done, false,
          BitVec.ofNat 8 (min 4 s.table.closedList.length)
            :: (((s.table.closedList.take 4).filterMap s.record).flatMap Record.closingChars
              ++ [BitVec.ofNat 8 (s.table.closedList.length - 4)])⟩)
        ∧ (∀ i, t.record i = if i ∈ s.table.closedList.take 4 then none else s.record i)
        ∧ t = { s with
            table := { s.table with
              slots := t.table.slots
              closedList := s.table.closedList.drop 4
              saved := some (tag, (s.table.closedList.take 4).filterMap s.record) }
            arb := s.arb.report s.clock srcNearlyFull
              (decide (44 ≤ s.recordCount - min 4 s.table.closedList.length)) none
              (some (.number ((s.recordCount - min 4 s.table.closedList.length : Nat) : Int))) })

/-- An addition to a total is exact up to 4,294,967,295, where it saturates; TOTAL_SATURATED is raised where that sets
an indicator that was clear (R114). A close adds the masses and the two closings counts in their order (R115, R116). -/
def Obligations.AdditionsToTotals : Prop :=
  (∀ (s : State) (i : TotalNo) (n : Nat),
    (s.totals[i].value + n ≤ 4294967295 → s.addTotal i n = { s with
      totals := s.totals.set i { value := s.totals[i].value + n, saturated := s.totals[i].saturated } })
    ∧ (4294967295 < s.totals[i].value + n → s.totals[i].saturated = false → s.addTotal i n = { s with
      totals := s.totals.set i { value := 4294967295, saturated := true }
      arb := s.arb.raise s.clock srcSaturated (some i.val) (some (.number n)) })
    ∧ (4294967295 < s.totals[i].value + n → s.totals[i].saturated = true → s.addTotal i n = { s with
      totals := s.totals.set i { value := 4294967295, saturated := true } }))
  ∧ ∀ (s : State) (r : Record) (x : FoamVerdict) (c k f : TotalNo), r.foamVerdict = some x →
    (∀ g, r.measured = some g → c.val + 1 = g.code) → (∀ g, r.measured = none → r.declared = some g → c.val + 1 = g.code) →
    (r.measured = none → r.declared = none → c = 3) →
    (∀ v, r.verdict = some v → k.val = 8 + v.code) → (r.verdict = none → k = 15) → f.val = 15 + x.code →
    s.addClose r = (((s.addTotal c r.mr).addTotal 4 r.mo).addTotal k 1).addTotal f 1

/-- READ TOTALS gives the twenty totals with their indicators, the start time and the line clock, and changes nothing
(R118); CLEAR TOTALS gives the same, sets every total and indicator to 0, starts the shift anew, and changes nothing
else (R119). -/
def Obligations.ReadAndClearTotals : Prop :=
  ∀ (s : State) (tag : Byte), s.link.rx ≠ .replying → ∃ content : List Byte,
    content.length = 108
      ∧ (∀ i : TotalNo, (content.drop (5 * i.val)).take 5
        = word4 (BitVec.ofNat 32 s.totals[i].value) ++ [if s.totals[i].saturated = true then 1 else 0])
      ∧ content.drop 100 = word4 s.totalsStart ++ word4 s.clock
      ∧ exec (.readTotals tag) s = .next (s.replied 28 tag ⟨.done, false, content⟩)
      ∧ exec (.clearTotals tag) s = .next (State.replied
        { s with totals := Vector.replicate 20 ⟨0, false⟩, totalsStart := s.clock } 29 tag ⟨.done, false, content⟩)

/-! ### The Shredder Feeder (chapter 4) -/

/-- The judgement of the feed permit in WAIT_PERMIT: an empty queue sends the Feeder to IDLE (R72); a permit that does
not hold changes nothing; one that holds (R73, R81) takes the head into FEEDING and opens the gate (R14, R74), which
where it is open already leads on to PASSING (R75). A Feeder that becomes idle with a non-empty queue judges again, within
the same step (log 13). -/
def Obligations.FeedPermit : Prop :=
  ∀ s : State,
    (s.feeder.state ≠ .waitPermit → s.judgePermit = s)
    ∧ (s.feeder.state = .waitPermit → s.table.shredQueue = [] → s.judgePermit = { s with
      feeder := { s.feeder with state := .idle, copied := none, deadline := none } })
    ∧ (∀ (i : Slot) (rest : List Slot) (permit : Prop), s.feeder.state = .waitPermit → s.table.shredQueue = i :: rest →
      (permit ↔ s.line.state = .run ∧ s.pins.shredderRunning = true ∧ s.table.openSet.length < 8
        ∧ (s.channel 10).status = .ok ∧ (s.channel 10).value < (s.item iVHigh : Int)
        ∧ (s.atm.state = .inert ∨ s.atm.state = .air ∧ ∀ r ∈ s.record i, r.flags.flammable = false)) →
      (¬permit → s.judgePermit = s)
      ∧ (permit → s.judgePermit = { s with
        table := { s.table with
          slots := s.table.slots.set i ((s.record i).map fun r => { r with phase := .feeding })
          shredQueue := rest
          feeding := some i }
        feeder := if s.pins.gateClosed = true then
            { s.feeder with
              state := .opening, copied := some (s.item iTOpen)
              deadline := some (s.clock + BitVec.ofNat 32 (s.item iTOpen)) }
          else
            { s.feeder with
              state := .passing, copied := some (s.item iTPass)
              deadline := some (s.clock + BitVec.ofNat 32 (s.item iTPass)) } }))
    ∧ s.feederToIdle = (if s.table.shredQueue = [] then
          { s with feeder := { s.feeder with state := .idle, copied := none, deadline := none } }
        else State.judgePermit { s with feeder := { s.feeder with state := .waitPermit, copied := none, deadline := none } })

/-- The gate cycle: a change of SHREDDER RUNNING judges the permit (R73); the gate leaving closed moves OPENING to PASSING
(R74, R75); the beam clearing in PASSING is the feed event, which makes the feeding appliance SHREDDING with its ticks
and closes the gate (R15, R76, R103, R146); the gate closed ends the cycle (R77). The commands are changes of their pins
(log 11), and the permit is judged within the step (log 13). -/
def Obligations.GateCycle : Prop :=
  ∀ s : State,
    (∀ b, s.pins.shredderRunning ≠ b → exec (.shredderRunningChange b) s
      = .next (State.judgePermit { s with pins := { s.pins with shredderRunning := b } }))
    ∧ (s.pins.gateClosed = true →
      (s.feeder.state = .opening → exec .gateClosedFalse s = .next { s with
        pins := { s.pins with gateClosed := false }
        feeder := { s.feeder with
          state := .passing, copied := some (s.item iTPass)
          deadline := some (s.clock + BitVec.ofNat 32 (s.item iTPass)) } })
      ∧ (s.feeder.state ≠ .opening → exec .gateClosedFalse s = .next { s with pins := { s.pins with gateClosed := false } }))
    ∧ (s.feeder.state ≠ .passing → exec .feedCapture s = .next { s with pins := { s.pins with beam := false } })
    ∧ (∀ (i : Slot) (r : Record) (t : State), s.feeder.state = .passing → s.table.feeding = some i → s.record i = some r →
      t = { s with
        pins := { s.pins with beam := false }
        table := { s.table with
          slots := s.table.slots.set i
            (some { r with phase := .shredding, feedTime := some s.clock, ticks := some (s.item iNSettle) })
          openSet := s.table.openSet ++ [i]
          feeding := none }
        feeder := { s.feeder with
          lastFeed := some s.clock, state := .closing, copied := some (s.item iTClose)
          deadline := some (s.clock + BitVec.ofNat 32 (s.item iTClose)) } } →
      (s.pins.gateClosed = false → exec .feedCapture s = .next t)
      ∧ (s.pins.gateClosed = true → exec .feedCapture s = .next t.feederToIdle))
    ∧ (s.pins.gateClosed = false →
      (s.feeder.state = .closing →
        exec .gateClosedTrue s = .next (State.feederToIdle { s with pins := { s.pins with gateClosed := true } }))
      ∧ (s.feeder.state ≠ .closing → exec .gateClosedTrue s = .next { s with pins := { s.pins with gateClosed := true } }))

/-- The timeouts of the gate: T_open returns the appliance to the head of the queue and jams the Feeder (R16, R74); T_pass jams
it with the appliance still FEEDING (R75); T_close jams it (R77). Each jam raises FEED_JAM (R78). FEED CLEAR and FEED RETURN
free a jammed Feeder whose gate is closed: the first makes a feeding appliance SHREDDING with FEED_CLEARED_BY_HOST, the
second returns it to the head of the shred queue; outside JAMMED they are refused WRONG_PHASE, with the gate open GATE_OPEN. -/
def Obligations.Jams : Prop :=
  (∀ s : State, s.feeder.deadline = some s.clock →
    (∀ i r, s.feeder.state = .opening → s.table.feeding = some i → s.record i = some r →
      exec .tOpenExpiry s = .next { s with
        table := { s.table with
          slots := s.table.slots.set i (some { r with phase := .shredWait })
          shredQueue := i :: s.table.shredQueue
          feeding := none }
        feeder := { s.feeder with state := .jammed, jam := some .gateStuck, copied := none, deadline := none }
        arb := s.arb.raise s.clock srcFeedJam none (some (.jam .gateStuck)) })
    ∧ (s.feeder.state = .passing → exec .tPassExpiry s = .next { s with
      feeder := { s.feeder with state := .jammed, jam := some .feedJam, copied := none, deadline := none }
      arb := s.arb.raise s.clock srcFeedJam (s.table.feeding.map Fin.val) (some (.jam .feedJam)) })
    ∧ (s.feeder.state = .closing → exec .tCloseExpiry s = .next { s with
      feeder := { s.feeder with state := .jammed, jam := some .gateStuck, copied := none, deadline := none }
      arb := s.arb.raise s.clock srcFeedJam (s.table.feeding.map Fin.val) (some (.jam .gateStuck)) }))
  ∧
  (∀ (s : State) (tag : Byte), s.link.rx ≠ .replying →
    (s.feeder.state ≠ .jammed →
      exec (.feedClear tag) s = .next (s.replied 13 tag (bare .wrongPhase))
        ∧ exec (.feedReturn tag) s = .next (s.replied 14 tag (bare .wrongPhase)))
    ∧ (s.feeder.state = .jammed → s.pins.gateClosed = false →
      exec (.feedClear tag) s = .next (s.replied 13 tag (bare .gateOpen))
        ∧ exec (.feedReturn tag) s = .next (s.replied 14 tag (bare .gateOpen)))
    ∧ (s.feeder.state = .jammed → s.pins.gateClosed = true →
      (s.table.feeding = none → ∃ t : State, t = { s with feeder := { s.feeder with jam := none } }
        ∧ exec (.feedClear tag) s = .next (t.feederToIdle.replied 13 tag (bare .done))
        ∧ exec (.feedReturn tag) s = .next (t.feederToIdle.replied 14 tag (bare .done)))
      ∧ (∀ i r, s.table.feeding = some i → s.record i = some r →
        exec (.feedClear tag) s = .next (State.replied (State.feederToIdle { s with
            table := { s.table with
              slots := s.table.slots.set i (some { r with
                phase := .shredding, feedTime := some s.clock, ticks := some (s.item iNSettle)
                flags := { r.flags with feedClearedByHost := true } })
              openSet := s.table.openSet ++ [i]
              feeding := none }
            feeder := { s.feeder with jam := none, lastFeed := some s.clock } }) 13 tag (bare .done))
        ∧ exec (.feedReturn tag) s = .next (State.replied (State.feederToIdle { s with
            table := { s.table with
              slots := s.table.slots.set i (some { r with phase := .shredWait })
              shredQueue := i :: s.table.shredQueue
              feeding := none }
            feeder := { s.feeder with jam := none } }) 14 tag (bare .done)))))


/-! ### The extraction stations (chapters 2 and 3) -/

/-- BEGIN EXTRACTION is refused by the first of its checks that fails (R29). One that passes binds the appliance and
starts a new attempt in CLAMPING; a closed clamp leads on to TARING, and settled rings to PIERCING with the tare
recorded and the attempt counted, in the same step (R4, R9, R30 to R33). The reply's count is one character (log 15). -/
def Obligations.BeginExtraction : Prop :=
  ∀ (s : State) (tag : Byte) (ident : Word) (station : Byte), s.link.rx ≠ .replying →
    (ident = 0 ∨ stationOf station = none →
      exec (.beginExtraction tag ident station) s = .next (s.replied 7 tag (bare .badField)))
    ∧ ∀ n : StationNo, ident ≠ 0 → stationOf station = some n →
      (s.line.state ≠ .run → exec (.beginExtraction tag ident station) s = .next (s.replied 7 tag (bare .lineState)))
      ∧ (s.line.state = .run → s.fitted n = false →
        exec (.beginExtraction tag ident station) s = .next (s.replied 7 tag (bare .stationNotFitted)))
      ∧ (s.line.state = .run → s.fitted n = true → (s.station n).state ≠ .idle →
        exec (.beginExtraction tag ident station) s = .next (s.replied 7 tag (bare .stationBusy)))
      ∧ (s.line.state = .run → s.fitted n = true → (s.station n).state = .idle →
        ((∀ j, ∀ q ∈ s.record j, q.ident ≠ ident) →
          exec (.beginExtraction tag ident station) s = .next (s.replied 7 tag (bare .noSuchAppliance)))
        ∧ ∀ (i : Slot) (r : Record), s.record i = some r → r.ident = ident →
          (∀ j, ∀ q ∈ s.record j, q.ident = ident → j = i) →
          (r.phase ≠ .queued →
            exec (.beginExtraction tag ident station) s = .next (s.replied 7 tag (bare .wrongPhase)))
          ∧ (r.phase = .queued → 2 ≤ r.attempts →
            exec (.beginExtraction tag ident station) s = .next (s.replied 7 tag (bare .attemptsSpent)))
          ∧ (r.phase = .queued → r.attempts < 2 → (s.item (iFill n) : Int) ≤ (s.channel (scaleChannel n)).value →
            exec (.beginExtraction tag ident station) s = .next (s.replied 7 tag (bare .receiverFull)))
          ∧ (r.phase = .queued → r.attempts < 2 → (s.channel (scaleChannel n)).value < (s.item (iFill n) : Int) →
            ((s.station n).receiver.contaminated = true
                ∨ (∃ a, (s.station n).receiver.assigned = some a ∧ r.declared ≠ none ∧ r.declared ≠ some a) →
              exec (.beginExtraction tag ident station) s = .next (s.replied 7 tag (bare .classConflict)))
            ∧ ((s.station n).receiver.contaminated = false →
              (s.station n).receiver.assigned = none ∨ r.declared = none
                ∨ r.declared = (s.station n).receiver.assigned →
              ∀ (a : Answer) (q : Record) (x : Station),
                a = ⟨.accepted, false, [BitVec.ofNat 8 (n.val + 1), BitVec.ofNat 8 i.val, BitVec.ofNat 8 r.attempts]⟩ →
                q = { r with phase := .extracting, bound := some n } →
                x = { s.station n with
                  bound := some i, pierced := false, probeTaken := false, attemptClass := none, tareReceiver := none
                  tareOil := none, finalReceiver := none, finalOil := none, dwellStart := none, riseRef := none
                  endCause := none, rises := 0 } →
                (s.pins.clamp[n] = false → exec (.beginExtraction tag ident station) s = .next (State.replied { s with
                  table := { s.table with slots := s.table.slots.set i (some q) }
                  stations := s.stations.set n { x with
                    state := .clamping, deadline := some (s.clock + BitVec.ofNat 32 (s.item iTClamp)) } } 7 tag a))
                ∧ (s.pins.clamp[n] = true → s.ringsSettled n = false →
                  exec (.beginExtraction tag ident station) s = .next (State.replied { s with
                    table := { s.table with slots := s.table.slots.set i (some q) }
                    stations := s.stations.set n { x with
                      state := .taring, deadline := some (s.clock + BitVec.ofNat 32 (s.item iTSettle)) } } 7 tag a))
                ∧ (s.pins.clamp[n] = true → s.ringsSettled n = true →
                  exec (.beginExtraction tag ident station) s = .next (State.replied { s with
                    table := { s.table with slots := s.table.slots.set i (some { q with
                      attempts := r.attempts + 1, used := r.used ++ [n] }) }
                    stations := s.stations.set n { x with
                      state := .piercing, pierced := true
                      tareReceiver := some (s.channel (scaleChannel n)).settledValue
                      tareOil := some (s.channel (cupChannel n)).settledValue
                      deadline := some (s.clock + BitVec.ofNat 32 (s.item iTPierce)) } } 7 tag a)))))

/-- A ring is settled when its channel is OK, it holds eight values, and their spread is within the band (R130); its settled
value is their mean rounded half up (R55); a station's rings are settled when both are (R32). A conversion: 0 and 65,535
are faults that hold value and ring; a good reading is scaled to the nearest integer, clamped to the limits, and joins the
ring, which after a fault starts anew and of nine values loses the oldest (R126 to R129). -/
def Obligations.ChannelLaws : Prop :=
  ((∀ c : Channel, c.settled = true ↔
    c.status = .ok ∧ c.ring.length = 8 ∧ ∀ u ∈ c.ring, ∀ v ∈ c.ring, u - v ≤ (c.band : Int))
  ∧ (∀ c : Channel, 8 * c.settledValue ≤ c.ring.sum + 4 ∧ c.ring.sum + 4 < 8 * c.settledValue + 8)
  ∧ ∀ (s : State) (n : StationNo), s.ringsSettled n = true ↔
    (s.channel ⟨2 * n.val, by omega⟩).settled = true ∧ (s.channel ⟨12 + n.val, by omega⟩).settled = true)
  ∧
  (∀ (c : Channel) (r : Raw),
    (r.toNat = 0 → c.convert r = { c with raw := some r, status := .faultLow })
    ∧ (r.toNat = 65535 → c.convert r = { c with raw := some r, status := .faultHigh })
    ∧ (1 ≤ r.toNat → r.toNat ≤ 65534 → ∀ (x v : Int) (old : List Int),
      65535 * (x - c.zero) ≤ r.toNat * c.span + 32767 → r.toNat * c.span + 32767 < 65535 * (x - c.zero + 1) →
      v = (if x < c.low then c.low else if c.high < x then c.high else x) →
      old = (if c.status = .faultLow ∨ c.status = .faultHigh then [] else c.ring) →
      c.convert r = { c with
        raw := some r, status := .ok, value := v, ring := (if old.length < 8 then old else old.drop 1) ++ [v] }))

/-- Before PIERCING: the clamp closing leads from CLAMPING to TARING and, with settled rings, to PIERCING (R31, R32); the
T_clamp and T_settle expiries return the appliance to QUEUED and fault the station with STATION_FAULT_n (R10, R31, R32,
R48). Outside CLAMPING the clamp closing changes its pin alone (R54); a clamp that is closed already does not close (log 11). -/
def Obligations.BeforePiercing : Prop :=
  (∀ (s : State) (n : StationNo),
    (s.pins.clamp[n] = true → exec (.clampClosedTrue n) s = .next s)
    ∧ (s.pins.clamp[n] = false → (s.station n).state ≠ .clamping →
      exec (.clampClosedTrue n) s = .next { s with pins := { s.pins with clamp := s.pins.clamp.set n true } }))
  ∧
  ∀ (s : State) (n : StationNo) (i : Slot) (r : Record), (s.station n).bound = some i → s.record i = some r →
    (s.pins.clamp[n] = false → (s.station n).state = .clamping →
      ∀ p : Pins, p = { s.pins with clamp := s.pins.clamp.set n true } →
      (s.ringsSettled n = false → exec (.clampClosedTrue n) s = .next { s with
        pins := p
        stations := s.stations.set n { s.station n with
          state := .taring, deadline := some (s.clock + BitVec.ofNat 32 (s.item iTSettle)) } })
      ∧ (s.ringsSettled n = true → exec (.clampClosedTrue n) s = .next { s with
        pins := p
        table := { s.table with slots := s.table.slots.set i (some { r with
          attempts := r.attempts + 1, used := r.used ++ [n] }) }
        stations := s.stations.set n { s.station n with
          state := .piercing, pierced := true
          tareReceiver := some (s.channel (scaleChannel n)).settledValue
          tareOil := some (s.channel (cupChannel n)).settledValue
          deadline := some (s.clock + BitVec.ofNat 32 (s.item iTPierce)) } }))
    ∧ ∀ (c : FaultCause) (t : State), (s.station n).deadline = some s.clock →
      t = { s with
        table := { s.table with slots := s.table.slots.set i (some { r with phase := .queued, bound := none }) }
        stations := s.stations.set n { s.station n with
          state := .faulted, bound := none, endCause := none, faultCause := some c, deadline := none
          probeDeadline := none }
        arb := s.arb.raise s.clock ⟨2 + n.val, by omega⟩ (some i.val) (some (.fault c)) } →
      ((s.station n).state = .clamping → c = .clampTimeout → exec (.clampTimeout n) s = .next t)
      ∧ ((s.station n).state = .taring → c = .scaleUnsettled → exec (.scaleUnsettled n) s = .next t)

/-- The expiries that lead an attempt on: T_pierce to EVACUATING with its limits copied and the probe deadline set, T_rise
to DRAINING_OIL (or past it where T_drain is 0), T_drain to WEIGHING (R28, R33, R34, R39 to R41, R144). Where the receiver
is full at the entry to EVACUATING, or the rings are settled at the entry to WEIGHING, the step goes on (R37, R41). The
entries a rise makes: EVACUATING again with the probe deadline as it stands, or past it with a full receiver; DRAINING_OIL;
or with T_drain 0 WEIGHING, or past it with settled rings. -/
def Obligations.SequenceExpiries : Prop :=
  (∀ (s : State) (n : StationNo), (s.station n).deadline = some s.clock →
    ((s.station n).state = .piercing → ∀ t : State,
      t = { s with stations := s.stations.set n { s.station n with
        state := .evacuating, copyTarget := s.item iPTarget, copyDwell := s.item iTDwell, copyFill := s.item (iFill n)
        dwellStart := none, probeDeadline := some (s.clock + BitVec.ofNat 32 (s.item iTProbe))
        deadline := some (s.clock + BitVec.ofNat 32 (s.item iTEvac)) } } →
      ((s.channel (scaleChannel n)).value < (s.item (iFill n) : Int) → exec (.tPierceExpiry n) s = .next t)
      ∧ ((s.item (iFill n) : Int) ≤ (s.channel (scaleChannel n)).value →
        exec (.tPierceExpiry n) s = .next (t.enterAbortWeighing n .receiverFull)))
    ∧ ((s.station n).state = .riseTest → s.item iTDrain ≠ 0 → exec (.tRiseExpiry n) s = .next { s with
      stations := s.stations.set n { s.station n with
        state := .drainingOil, deadline := some (s.clock + BitVec.ofNat 32 (s.item iTDrain)) } })
    ∧ ∀ t : State, t = { s with stations := s.stations.set n { s.station n with
        state := .weighing, deadline := some (s.clock + BitVec.ofNat 32 (s.item iTSettle)) } } →
      ((s.station n).state = .riseTest → s.item iTDrain = 0 → exec (.tRiseExpiry n) s = .next (t.judgeRings n))
      ∧ ((s.station n).state = .drainingOil → exec (.tDrainExpiry n) s = .next (t.judgeRings n))
      ∧ (s.ringsSettled n = false → t.judgeRings n = t)
      ∧ (s.ringsSettled n = true →
        t.judgeRings n = t.weigh n (s.channel (scaleChannel n)).settledValue (s.channel (cupChannel n)).settledValue false))
  ∧
  (∀ (s : State) (n : StationNo),
    (∀ t : State, t = { s with
      stations := s.stations.set n { s.station n with
        state := .evacuating, copyTarget := s.item iPTarget, copyDwell := s.item iTDwell, copyFill := s.item (iFill n)
        dwellStart := none, deadline := some (s.clock + BitVec.ofNat 32 (s.item iTEvac)) } } →
      ((s.channel (scaleChannel n)).value < (s.item (iFill n) : Int) → s.enterEvacuating n false = t)
      ∧ ((s.item (iFill n) : Int) ≤ (s.channel (scaleChannel n)).value →
        s.enterEvacuating n false = t.enterAbortWeighing n .receiverFull))
    ∧ (s.item iTDrain ≠ 0 → s.enterDraining n = { s with
      stations := s.stations.set n { s.station n with
        state := .drainingOil, deadline := some (s.clock + BitVec.ofNat 32 (s.item iTDrain)) } })
    ∧ (s.item iTDrain = 0 → ∀ t : State, t = { s with
      stations := s.stations.set n { s.station n with
        state := .weighing, deadline := some (s.clock + BitVec.ofNat 32 (s.item iTSettle)) } } →
      (s.ringsSettled n = false → s.enterDraining n = t)
      ∧ (s.ringsSettled n = true → s.enterDraining n
        = t.weigh n (s.channel (scaleChannel n)).settledValue (s.channel (cupChannel n)).settledValue false)))

/-- The probe reads the analyser once (R35, R144), at the level its command gives, which the input then has (log 6): a result
becomes the measured class of a record without one and marks HYDRO flammable; one that differs from the declared class or
the measured class is flagged and raises CLASS_MISMATCH. Then the attempt class is judged against the receiver (R36): a
conflict or no class ends the attempt in ABORT_WEIGHING, a receiver without class takes it. T_evac flags EVAC_TIMEOUT and
leads to RISE_TEST with the rise reference and limit copied (R38, R39); where the probe is not yet taken, it is taken
first in the same step, and may end the attempt (R35). -/
def Obligations.ProbeAndEvacuationTimeout : Prop :=
  (∀ (s : State) (n : StationNo) (pair : BitVec 2) (i : Slot) (r : Record) (t : State) (cls : Option Gas),
    (s.station n).state = .evacuating → (s.station n).probeDeadline = some s.clock → (s.station n).bound = some i →
    s.record i = some r →
    cls = (if pair ≠ 0 then gasOfPair pair else if r.measured ≠ none then r.measured else r.declared) →
    (pair = 0 → t = { s with
      pins := { s.pins with analyser := s.pins.analyser.set n pair }
      stations := s.stations.set n { s.station n with probeTaken := true, probeDeadline := none, attemptClass := cls } }) →
    (∀ (g : Gas) (mismatch : Bool), gasOfPair pair = some g →
      (mismatch = true ↔ (∃ d, r.declared = some d ∧ d ≠ g) ∨ ∃ m, r.measured = some m ∧ m ≠ g) →
      t = { s with
        pins := { s.pins with analyser := s.pins.analyser.set n pair }
        table := { s.table with slots := s.table.slots.set i (some { r with
          measured := if r.measured = none then some g else r.measured
          flags := { r.flags with
            flammable := r.flags.flammable || (r.measured == none && g == .hydro)
            classMismatch := r.flags.classMismatch || mismatch } }) }
        stations := s.stations.set n { s.station n with
          probeTaken := true, probeDeadline := none, attemptClass := cls }
        arb := if mismatch = true then s.arb.raise s.clock srcClassMismatch (some i.val) (some (.gas g)) else s.arb }) →
    ((∃ g m, gasOfPair pair = some g ∧ r.measured = some m ∧ m ≠ g)
        ∨ (∃ a c, (s.station n).receiver.assigned = some a ∧ cls = some c ∧ a ≠ c) →
      exec (.probe n pair) s = .next (t.enterAbortWeighing n .conflict))
    ∧ (cls = none → exec (.probe n pair) s
      = .next ((t.modRecord i (Record.flag .classUndetermined)).enterAbortWeighing n .undetermined))
    ∧ (∀ c, cls = some c → (∀ g, gasOfPair pair = some g → r.measured = none ∨ r.measured = some g) →
      ((s.station n).receiver.assigned = some c → exec (.probe n pair) s = .next t)
      ∧ ((s.station n).receiver.assigned = none → exec (.probe n pair) s = .next (t.modStation n fun x =>
        { x with receiver := { x.receiver with assigned := some c } }))))
  ∧
  (∀ (s : State) (n : StationNo) (pair : BitVec 2) (i : Slot) (r : Record), (s.station n).state = .evacuating →
    (s.station n).deadline = some s.clock → (s.station n).bound = some i → s.record i = some r →
    ((s.station n).probeTaken = true → exec (.tEvacExpiry n pair) s = .next { s with
      table := { s.table with slots := s.table.slots.set i (some { r with flags := { r.flags with evacTimeout := true } }) }
      stations := s.stations.set n { s.station n with
        state := .riseTest
        riseRef := if (s.channel (suctionChannel n)).status = .ok then some (s.channel (suctionChannel n)).value else none
        copyRise := s.item iPRise
        deadline := some (s.clock + BitVec.ofNat 32 (s.item iTRise)) } })
    ∧ ((s.station n).probeTaken = false → ∃ t : State,
      exec (.probe n pair) { s with
        stations := s.stations.set n { s.station n with probeDeadline := some s.clock } } = .next t
      ∧ exec (.tEvacExpiry n pair) s = .next (if (t.station n).state = .evacuating then
          (t.modRecord i (Record.flag .evacTimeout)).modStation n fun x => { x with
            state := .riseTest
            riseRef := if (s.channel (suctionChannel n)).status = .ok then some (s.channel (suctionChannel n)).value else none
            copyRise := s.item iPRise
            deadline := some (s.clock + BitVec.ofNat 32 (s.item iTRise)) }
        else t)))

/-- A group A conversion updates the channel in conversion and starts the next of the cycle (R122, R123, R126 to R129), and
the owning station judges its test: the dwell of an evacuation (R34), a rise (R39), a full receiver, which at or above the
fill limit copied at the entry ends the evacuation in ABORT_WEIGHING with RECEIVER_FULL (R28, R37), or its rings (R32, R41,
R47; `WeighingStep` says how). CHANNEL_FAULT (R131) is judged before the station (log 31), and the input has the
level the conversion read (log 6). -/
def Obligations.GroupAConversion : Prop :=
  ∀ (s : State) (raw : Raw) (c : Fin 8) (n : StationNo) (u : State), s.scan.next = c → c.val < 2 * s.fittedCount →
    c.val / 2 = n.val →
    u = State.judgeChannels { s with
      channels := s.channels.set c.val ((s.channel ⟨c.val, by omega⟩).convert raw)
      scan := { s.scan with
        next := if c.val + 1 = 2 * s.fittedCount then 0 else c + 1
        due := s.clock + 2 }
      pins := { s.pins with analog := s.pins.analog.set c.val raw } } →
    (c.val % 2 = 0 → (s.station n).state ≠ .evacuating → exec (.groupAConversion raw) s = .next (u.judgeRings n))
    ∧ (c.val % 2 = 0 → (s.station n).state = .evacuating →
      ((u.channel ⟨c.val, by omega⟩).value < ((s.station n).copyFill : Int) → exec (.groupAConversion raw) s = .next u)
      ∧ (((s.station n).copyFill : Int) ≤ (u.channel ⟨c.val, by omega⟩).value →
        exec (.groupAConversion raw) s = .next (State.judgeRings { u with
          stations := s.stations.set n { s.station n with
            state := .abortWeighing, endCause := some .receiverFull, probeDeadline := none
            deadline := some (s.clock + BitVec.ofNat 32 (s.item iTSettle)) } } n)))
    ∧ (c.val % 2 = 1 → (s.station n).state ≠ .evacuating → (s.station n).state ≠ .riseTest →
      exec (.groupAConversion raw) s = .next u)
    ∧ (c.val % 2 = 1 → (s.station n).state = .evacuating → ∀ p : Option Int,
      p = (if (u.channel ⟨c.val, by omega⟩).status = .ok then some (u.channel ⟨c.val, by omega⟩).value else none) →
      ((p = none ∨ ∃ v, p = some v ∧ ((s.station n).copyTarget : Int) < v) →
        exec (.groupAConversion raw) s = .next (u.modStation n fun x => { x with dwellStart := none }))
      ∧ (∀ v, p = some v → v ≤ ((s.station n).copyTarget : Int) →
        ((s.station n).dwellStart = none →
          exec (.groupAConversion raw) s = .next (u.modStation n fun x => { x with dwellStart := some s.clock }))
        ∧ (∀ d, (s.station n).dwellStart = some d →
          ((s.station n).copyDwell ≤ (s.clock - d).toNat ∧ (s.station n).probeTaken = true →
            exec (.groupAConversion raw) s = .next (u.modStation n fun x => { x with
              state := .riseTest, riseRef := some v, copyRise := s.item iPRise
              deadline := some (s.clock + BitVec.ofNat 32 (s.item iTRise)) }))
          ∧ (¬((s.station n).copyDwell ≤ (s.clock - d).toNat ∧ (s.station n).probeTaken = true) →
            exec (.groupAConversion raw) s = .next u))))
    ∧ (c.val % 2 = 1 → (s.station n).state = .riseTest → ∀ i, (s.station n).bound = some i →
      (∀ v ref, (u.channel ⟨c.val, by omega⟩).status = .ok → v = (u.channel ⟨c.val, by omega⟩).value →
        (s.station n).riseRef = some ref → ref + ((s.station n).copyRise : Int) < v →
        ((s.station n).rises < 2 → exec (.groupAConversion raw) s
          = .next ((u.modStation n fun x => { x with rises := x.rises + 1 }).enterEvacuating n false))
        ∧ (2 ≤ (s.station n).rises → exec (.groupAConversion raw) s
          = .next ((u.modRecord i (Record.flag .outgassing)).enterDraining n)))
      ∧ ((u.channel ⟨c.val, by omega⟩).status ≠ .ok ∨ (s.station n).riseRef = none
          ∨ (∃ ref, (s.station n).riseRef = some ref
            ∧ (u.channel ⟨c.val, by omega⟩).value ≤ ref + ((s.station n).copyRise : Int)) →
        exec (.groupAConversion raw) s = .next u))

/-- An attempt ended early: ABORT EXTRACTION (R44) and the clamp opening (R43) return an appliance not yet pierced to QUEUED
unweighed and leave the station, and take a pierced one through ABORT_WEIGHING (R46, R47); an open clamp ends AWAIT_UNCLAMP
(R42). -/
def Obligations.AbortAndClampOpened : Prop :=
  ∀ (s : State) (n : StationNo),
    (∀ (tag station : Byte), s.link.rx ≠ .replying → stationOf station = some n → s.fitted n = true →
      ((s.station n).state.running = false →
        exec (.abortExtraction tag station) s = .next (s.replied 8 tag (bare .wrongPhase)))
      ∧ ((s.station n).state.running = true → (s.station n).pierced = true →
        exec (.abortExtraction tag station) s
          = .next ((s.enterAbortWeighing n .abort).replied 8 tag (bare .accepted)))
      ∧ ((s.station n).state.running = true → (s.station n).pierced = false → ∀ i r, (s.station n).bound = some i →
        s.record i = some r → exec (.abortExtraction tag station) s = .next (State.replied { s with
          table := { s.table with slots := s.table.slots.set i (some { r with phase := .queued, bound := none }) }
          stations := s.stations.set n { s.station n with
            state := if s.pins.clamp[n] = true then .awaitUnclamp else .idle
            bound := none, endCause := none, deadline := none, probeDeadline := none } } 8 tag (bare .accepted))))
    ∧ (s.pins.clamp[n] = true → ∀ p : Pins, p = { s.pins with clamp := s.pins.clamp.set n false } →
      ((s.station n).state = .awaitUnclamp → exec (.clampOpened n) s = .next { s with
        pins := p
        stations := s.stations.set n { s.station n with
          state := .idle, bound := none, endCause := none, deadline := none, probeDeadline := none } })
      ∧ ((s.station n).state ≠ .awaitUnclamp → (s.station n).state.running = false ∨ (s.station n).state = .clamping →
        exec (.clampOpened n) s = .next { s with pins := p })
      ∧ (∀ i r, (s.station n).state = .taring → (s.station n).pierced = false → (s.station n).bound = some i →
        s.record i = some r → exec (.clampOpened n) s = .next { s with
          pins := p
          table := { s.table with slots := s.table.slots.set i (some { r with phase := .queued, bound := none }) }
          stations := s.stations.set n { s.station n with
            state := .idle, bound := none, endCause := none, deadline := none, probeDeadline := none }
          arb := s.arb.raise s.clock ⟨2 + n.val, by omega⟩ (some i.val) (some (.fault .clampOpened)) })
      ∧ (∀ i, (s.station n).state.running = true → (s.station n).state ≠ .clamping → (s.station n).pierced = true →
        (s.station n).bound = some i → exec (.clampOpened n) s
          = .next ((State.enterAbortWeighing { s with pins := p } n .clampOpened).raise ⟨2 + n.val, by omega⟩ (some i.val)
            (some (.fault .clampOpened)))))
    ∧ (∀ c : EndCause, s.ringsSettled n = false → s.enterAbortWeighing n c = { s with
      stations := s.stations.set n { s.station n with
        state := .abortWeighing, endCause := some c, probeDeadline := none
        deadline := some (s.clock + BitVec.ofNat 32 (s.item iTSettle)) } })

/-- The weighing step on any readings (R62): the masses grow, the receiver is gated by the measured class, else the declared one
(R52), and the attempt ends by its end cause: EXTRACTED with its verdict and ρ, RATIO_SATURATED where the exact quotient
exceeds 1999 (R63), back to QUEUED, or EXTRACTED with CONFLICT, the station in AWAIT_UNCLAMP or FAULTED. It is taken at
T_settle on the readings of R56, and with both rings settled on the settled values, at a judgement of the rings in WEIGHING
or ABORT_WEIGHING and at the entry to ABORT_WEIGHING (R41, R47). In TARING settled rings lead to PIERCING (R32, R33). -/
def Obligations.WeighingStep : Prop :=
  (∀ (s : State) (n : StationNo) (i : Slot) (r q : Record) (wf ofl wt ot : Int) (unsettled : Bool) (x : Station),
    (s.station n).bound = some i → s.record i = some r →
    (s.station n).tareReceiver = some wt → (s.station n).tareOil = some ot →
    q = { r with
      mr := min 40000 (r.mr + (wf - wt).toNat), mo := min 40000 (r.mo + (ofl - ot).toNat)
      flags := { r.flags with
        unsettledFinal := r.flags.unsettledFinal || unsettled
        negativeClamped := r.flags.negativeClamped || decide (wf < wt ∨ ofl < ot)
        massSaturated := r.flags.massSaturated
          || decide (40000 < r.mr + (wf - wt).toNat ∨ 40000 < r.mo + (ofl - ot).toNat) } } →
    x = { s.station n with
      state := if s.pins.clamp[n] = true then .awaitUnclamp else .idle
      bound := none, endCause := none, deadline := none, probeDeadline := none
      finalReceiver := some wf, finalOil := some ofl
      receiver := (s.station n).receiver.gate (s.station n).endCause (if r.measured = none then r.declared else r.measured)
        (wf - wt).toNat (s.item iMEmpty) } →
    (∀ v : Verdict, ((s.station n).endCause = none ∧ v = massVerdict q.mr q.charge (s.item iMEmpty) (s.item iRhoMin)
        ∨ v = .conflict ∧ ((s.station n).endCause = some .conflict ∨ (s.station n).endCause = some .undetermined)) →
      s.weigh n wf ofl unsettled = { s with
        table := { s.table with slots := s.table.slots.set i (some { q with
          phase := .extracted, bound := none, verdict := some v
          rho := if r.charge = 0 then none else some (min 1999 (q.mr * 1000 / r.charge))
          flags := { q.flags with
            ratioSaturated := q.flags.ratioSaturated || decide (r.charge ≠ 0 ∧ 1999 * r.charge < q.mr * 1000) } }) }
        stations := s.stations.set n x
        arb := s.arb.raise s.clock ⟨13 + n.val, by omega⟩ (some i.val) (some (.verdict v)) })
    ∧ ((s.station n).endCause = some .abort ∨ (s.station n).endCause = some .stop
        ∨ (s.station n).endCause = some .clampOpened →
      s.weigh n wf ofl unsettled = { s with
        table := { s.table with slots := s.table.slots.set i (some { q with phase := .queued, bound := none }) }
        stations := s.stations.set n x })
    ∧ ((s.station n).endCause = some .receiverFull → s.weigh n wf ofl unsettled = { s with
        table := { s.table with slots := s.table.slots.set i (some { q with phase := .queued, bound := none }) }
        stations := s.stations.set n { x with state := .faulted, faultCause := some .receiverFull }
        arb := s.arb.raise s.clock ⟨2 + n.val, by omega⟩ (some i.val) (some (.fault .receiverFull)) }))
  ∧
  (∀ (s : State) (n : StationNo) (a b : Channel), a = s.channel (scaleChannel n) → b = s.channel (cupChannel n) →
    ((s.station n).state = .weighing ∨ (s.station n).state = .abortWeighing →
      ((s.station n).deadline = some s.clock → exec (.weighingSettleTimeout n) s
        = .next (s.weigh n a.finalReading b.finalReading (!s.ringsSettled n)))
      ∧ (s.ringsSettled n = true → s.judgeRings n = s.weigh n a.settledValue b.settledValue false))
    ∧ (s.ringsSettled n = true → ∀ c : EndCause, s.enterAbortWeighing n c = State.weigh { s with
      stations := s.stations.set n { s.station n with
        state := .abortWeighing, endCause := some c, probeDeadline := none
        deadline := some (s.clock + BitVec.ofNat 32 (s.item iTSettle)) } } n a.settledValue b.settledValue false)
    ∧ (s.ringsSettled n = true → (s.station n).state = .taring → ∀ i r, (s.station n).bound = some i → s.record i = some r →
      s.judgeRings n = { s with
        table := { s.table with slots := s.table.slots.set i (some { r with
          attempts := r.attempts + 1, used := r.used ++ [n] }) }
        stations := s.stations.set n { s.station n with
          state := .piercing, pierced := true, tareReceiver := some a.settledValue, tareOil := some b.settledValue
          deadline := some (s.clock + BitVec.ofNat 32 (s.item iTPierce)) } })
    ∧ (s.ringsSettled n = false ∨ (s.station n).state ≠ .taring ∧ (s.station n).state ≠ .weighing
        ∧ (s.station n).state ≠ .abortWeighing → s.judgeRings n = s))

/-- The final reading of R56, the receiver gate of R52 with the credit of R61, and the verdict of R64, each by its table. -/
def Obligations.MassTables : Prop :=
  (∀ c : Channel, (c.settled = true → c.finalReading = c.settledValue)
    ∧ (c.settled = false → c.ring = [] → c.finalReading = c.value)
    ∧ (c.settled = false → c.ring ≠ [] →
      c.finalReading * c.ring.length ≤ c.ring.sum ∧ c.ring.sum < (c.finalReading + 1) * c.ring.length))
  ∧ (∀ (rc credited : Receiver) (cause : Option EndCause) (cls : Option Gas) (d e : Nat),
    credited = { rc with
      credited := min 4294967295 (rc.credited + d)
      count := if 0 < d then min 65535 (rc.count + 1) else rc.count } →
    (∀ stopped : Prop, (stopped ↔ cause = some .conflict ∨ cause = some .undetermined) →
      (stopped → e < d → rc.gate cause cls d e = { credited with contaminated := true })
      ∧ (stopped → d ≤ e → rc.gate cause cls d e = rc)
      ∧ (¬stopped → ∀ g, rc.assigned = some g → cls = some g → rc.gate cause cls d e = credited)
      ∧ (¬stopped → rc.assigned = none → ∀ g, cls = some g →
        rc.gate cause cls d e = { credited with assigned := some g })
      ∧ (¬stopped → cls = none ∨ (∃ a g, rc.assigned = some a ∧ cls = some g ∧ a ≠ g) →
        (e < d → rc.gate cause cls d e = { credited with contaminated := true })
        ∧ (d ≤ e → rc.gate cause cls d e = rc))))
  ∧ ∀ mr c e rhoMin : Nat,
    (mr < e → massVerdict mr c e rhoMin = .empty)
    ∧ (e ≤ mr → c = 0 → massVerdict mr c e rhoMin = .unrated)
    ∧ (e ≤ mr → c ≠ 0 → rhoMin ≤ min 1999 (mr * 1000 / c) → massVerdict mr c e rhoMin = .complete)
    ∧ (e ≤ mr → c ≠ 0 → min 1999 (mr * 1000 / c) < rhoMin → massVerdict mr c e rhoMin = .short)

/-- WAIVE EXTRACTION takes a QUEUED appliance to EXTRACTED with verdict WAIVED (R11, R50, R63); CLEAR STATION frees a
FAULTED station (R49); RECEIVER CHANGED gives an IDLE station a fresh receiver record (R51); each with its refusals. -/
def Obligations.StationRequests : Prop :=
  ∀ (s : State) (tag : Byte), s.link.rx ≠ .replying →
    (∀ (ident : Word), (ident = 0 → exec (.waiveExtraction tag ident) s = .next (s.replied 9 tag (bare .badField)))
      ∧ (ident ≠ 0 → s.line.state = .stop →
        exec (.waiveExtraction tag ident) s = .next (s.replied 9 tag (bare .lineState)))
      ∧ (ident ≠ 0 → s.line.state ≠ .stop → (∀ j, ∀ q ∈ s.record j, q.ident ≠ ident) →
        exec (.waiveExtraction tag ident) s = .next (s.replied 9 tag (bare .noSuchAppliance)))
      ∧ ∀ i r, ident ≠ 0 → s.line.state ≠ .stop → s.record i = some r → r.ident = ident →
        (∀ j, ∀ q ∈ s.record j, q.ident = ident → j = i) →
        (r.phase ≠ .queued → exec (.waiveExtraction tag ident) s = .next (s.replied 9 tag (bare .wrongPhase)))
        ∧ (r.phase = .queued → exec (.waiveExtraction tag ident) s = .next (State.replied { s with
          table := { s.table with slots := s.table.slots.set i (some { r with
            phase := .extracted, bound := none, verdict := some .waived
            rho := if r.charge = 0 then none else some (min 1999 (r.mr * 1000 / r.charge))
            flags := { r.flags with
              ratioSaturated := r.flags.ratioSaturated || decide (r.charge ≠ 0 ∧ 1999 * r.charge < r.mr * 1000) } }) } }
          9 tag (bare .done))))
    ∧ (∀ station : Byte, ∀ a : Answer, (stationOf station = none ∧ a = bare .badField
          ∨ ∃ n, stationOf station = some n ∧ s.fitted n = false ∧ a = bare .stationNotFitted) →
      exec (.abortExtraction tag station) s = .next (s.replied 8 tag a)
        ∧ exec (.clearStation tag station) s = .next (s.replied 10 tag a)
        ∧ exec (.receiverChanged tag station) s = .next (s.replied 11 tag a))
    ∧ ∀ (station : Byte) (n : StationNo), stationOf station = some n → s.fitted n = true →
      ((s.station n).state ≠ .faulted →
        exec (.clearStation tag station) s = .next (s.replied 10 tag (bare .wrongPhase)))
      ∧ ((s.station n).state = .faulted → exec (.clearStation tag station) s = .next (State.replied { s with
        stations := s.stations.set n { s.station n with
          state := if s.pins.clamp[n] = true then .awaitUnclamp else .idle
          bound := none, endCause := none, faultCause := none, deadline := none, probeDeadline := none } } 10 tag
        (bare .done)))
      ∧ ((s.station n).state ≠ .idle →
        exec (.receiverChanged tag station) s = .next (s.replied 11 tag (bare .stationBusy)))
      ∧ ((s.station n).state = .idle → exec (.receiverChanged tag station) s = .next (State.replied { s with
        stations := s.stations.set n { s.station n with
          receiver := { assigned := none, credited := 0, count := 0, contaminated := false } } } 11 tag (bare .done)))

/-! ### The line (chapter 10) -/

/-- LINE RUN, LINE HOLD and LINE RESUME: the move each makes and the line state each reply carries; LINE RUN and LINE RESUME
are refused while EMERGENCY STOP is asserted (R166 to R168, R172). LINE STOP, and the assertion of EMERGENCY STOP, stop the
line from any other state; in STOP nothing is handed on, but the assertion is raised all the same; its release updates the
mark alone (R169, R170). A broadcast is counted and gets no reply (R186). Where the block's mark says asserted already, the
assertion is no change and sets the pin alone (the model's choice, log 11); a move judges the permit within its step (log 13). -/
def Obligations.LineRequests : Prop :=
  (∀ (s : State) (tag : Byte) (moved : LineState → State), s.link.rx ≠ .replying →
    (∀ l, moved l = State.judgePermit { s with line := { s.line with state := l } }) →
    (s.line.state = .initial ∨ s.line.state = .hold → s.pins.emergencyStop = false →
      exec (.lineRun tag) s = .next ((moved .run).replied 30 tag ⟨.done, false, [2]⟩))
    ∧ (s.line.state = .initial ∨ s.line.state = .hold → s.pins.emergencyStop = true →
      exec (.lineRun tag) s = .next (s.replied 30 tag ⟨.emergencyActive, false, [BitVec.ofNat 8 s.line.state.code]⟩))
    ∧ (s.line.state = .run ∨ s.line.state = .stop →
      exec (.lineRun tag) s = .next (s.replied 30 tag ⟨.lineState, false, [BitVec.ofNat 8 s.line.state.code]⟩))
    ∧ (s.line.state = .run → exec (.lineHold tag false) s = .next ((moved .hold).replied 31 tag ⟨.done, false, [3]⟩))
    ∧ (s.line.state ≠ .run → exec (.lineHold tag false) s
      = .next (s.replied 31 tag ⟨.lineState, false, [BitVec.ofNat 8 s.line.state.code]⟩))
    ∧ exec (.lineHold tag true) s = .next { (if s.line.state = .run then moved .hold else s) with
      link := { s.link with
        rx := .hunt, buffer := [], checkHigh := none, expected := none, gap := false
        good := min 65535 (s.link.good + 1) } }
    ∧ (s.line.state = .stop → s.pins.emergencyStop = false →
      exec (.lineResume tag) s = .next ((moved .hold).replied 33 tag ⟨.done, false, [3]⟩))
    ∧ (s.line.state = .stop → s.pins.emergencyStop = true →
      exec (.lineResume tag) s = .next (s.replied 33 tag ⟨.emergencyActive, false, [4]⟩))
    ∧ (s.line.state ≠ .stop → exec (.lineResume tag) s
      = .next (s.replied 33 tag ⟨.lineState, false, [BitVec.ofNat 8 s.line.state.code]⟩)))
  ∧
  (∀ (s : State) (tag : Byte),
    (s.link.rx ≠ .replying →
      exec (.lineStop tag false) s
        = .next ((if s.line.state = .stop then s else s.enterStop).replied 32 tag ⟨.done, false, [4]⟩)
      ∧ exec (.lineStop tag true) s = .next { (if s.line.state = .stop then s else s.enterStop) with
        link := { s.link with
          rx := .hunt, buffer := [], checkHigh := none, expected := none, gap := false
          good := min 65535 (s.link.good + 1) } })
    ∧ (s.line.emergencyMark = false → ∀ u : State,
      u = { s with
        pins := { s.pins with emergencyStop := true }
        line := { s.line with emergencyMark := true }
        arb := s.arb.raise s.clock srcEmergency none (some (.line s.line.state)) } →
      exec .emergencyStopAsserted s = .next (if s.line.state = .stop then u else u.enterStop))
    ∧ (s.line.emergencyMark = true →
      exec .emergencyStopAsserted s = .next { s with pins := { s.pins with emergencyStop := true } })
    ∧ exec .emergencyStopReleased s = .next { s with
      pins := { s.pins with emergencyStop := false }, line := { s.line with emergencyMark := false } })

/-- The entry to STOP, where the blocks agree: a station not yet pierced returns its appliance and leaves, a pierced one
enters ABORT_WEIGHING, the others stay; in OPENING the Feeder's appliance returns to the head of the queue, in PASSING the
Feeder jams and FEED_JAM is raised with the feeding slot and STOP, no other notice arising (R45, R46, R78, R79, R171). Every other record, the open-window set, the closed list and the counters of the table stay
as they are, and so does all but the line, the table, the stations, the Feeder and the notices. -/
def Obligations.EntryToStop : Prop :=
  ∀ s t : State, s.consistent → s.line.state ≠ .stop → t = s.enterStop →
    t = { s with
      line := { s.line with state := .stop }, table := t.table, stations := t.stations, feeder := t.feeder
      arb := if s.feeder.state = .passing then
          s.arb.raise s.clock srcFeedJam (s.table.feeding.map Fin.val) (some (.jam .stop))
        else s.arb }
    ∧ (∀ n, (s.station n).state.running = false → t.station n = s.station n)
    ∧ (∀ n i r, (s.station n).state.running = true → (s.station n).bound = some i → s.record i = some r →
      ((s.station n).pierced = false →
        t.station n = { s.station n with
          state := if s.pins.clamp[n] = true then .awaitUnclamp else .idle
          bound := none, endCause := none, deadline := none, probeDeadline := none }
        ∧ t.record i = some { r with phase := .queued, bound := none })
      ∧ ((s.station n).pierced = true →
        t.station n = (s.enterAbortWeighing n .stop).station n ∧ t.record i = (s.enterAbortWeighing n .stop).record i))
    ∧ (∀ i r, s.feeder.state = .opening → s.table.feeding = some i → s.record i = some r →
      t.table.feeding = none ∧ t.table.shredQueue = i :: s.table.shredQueue
        ∧ t.record i = some { r with phase := .shredWait }
        ∧ t.feeder = { s.feeder with state := .waitPermit, copied := none, deadline := none })
    ∧ (s.feeder.state = .passing →
      t.feeder = { s.feeder with state := .jammed, jam := some .stop, copied := none, deadline := none }
        ∧ t.table.feeding = s.table.feeding)
    ∧ (s.feeder.state ≠ .opening → s.feeder.state ≠ .passing → t.feeder = s.feeder)
    ∧ t.table = { s.table with slots := t.table.slots, shredQueue := t.table.shredQueue, feeding := t.table.feeding }
    ∧ (s.feeder.state ≠ .opening → t.table.shredQueue = s.table.shredQueue ∧ t.table.feeding = s.table.feeding)
    ∧ (∀ i, (∀ n, (s.station n).state.running = true → (s.station n).bound ≠ some i) →
      (s.feeder.state = .opening → s.table.feeding ≠ some i) → t.record i = s.record i)

/-- CLEAR LINE is refused outside INITIAL and STOP, then while a fitted station is neither IDLE nor FAULTED or the Feeder
is not IDLE; otherwise it empties the table, resets every station's attempt and frees FAULTED stations, makes baseline and
debt absent and 0, and leaves the line in INITIAL (R24, R54, R92, R175, R176). The stations keep the limits they copied (the
model's choice, log 20). -/
def Obligations.ClearLine : Prop :=
  ∀ (s : State) (tag : Byte) (ready : Prop), s.link.rx ≠ .replying →
    (ready ↔ s.feeder.state = .idle
      ∧ ∀ n, s.fitted n = true → (s.station n).state = .idle ∨ (s.station n).state = .faulted) →
    (s.line.state = .run ∨ s.line.state = .hold →
      exec (.clearLine tag) s = .next (s.replied 34 tag (bare .lineState)))
    ∧ (s.line.state = .initial ∨ s.line.state = .stop →
      (¬ready → exec (.clearLine tag) s = .next (s.replied 34 tag (bare .busy)))
      ∧ (ready → ∃ t : State, exec (.clearLine tag) s = .next (t.replied 34 tag (bare .done))
        ∧ t = { s with
          table := { slots := Vector.replicate 48 none, seqCtr := 0, relCtr := 0, shredQueue := [], feeding := none
                     openSet := [], closedList := [], saved := none }
          stations := t.stations
          foam := { s.foam with baseline := none, debt := 0 }
          line := { s.line with state := .initial }
          arb := s.arb.report s.clock srcNearlyFull false none (some (.number 0)) }
        ∧ ∀ n, t.station n = { s.station n with
          state := if (s.station n).state = .faulted then .idle else (s.station n).state
          pierced := false, probeTaken := false, attemptClass := none, tareReceiver := none, tareOil := none
          finalReceiver := none, finalOil := none, rises := 0, dwellStart := none, riseRef := none, endCause := none
          faultCause := none, probeDeadline := none }))

/-! ### Atmosphere and timing (chapters 4, 7 and 8) -/

/-- CHANNEL_FAULT follows the counted channels: group A in the cycle, B0 to B3, the oil cups of fitted stations. It is true
while one of them is in fault, with the lowest of these as its subject and the side of its fault as its value (R131). -/
def Obligations.ChannelFault : Prop :=
  ∀ (s : State) (fitted : Nat) (counted faulted : ChannelNo → Prop), fitted = (if s.fitted4 = true then 4 else 2) →
    (∀ c, counted c ↔ c.val < 2 * fitted ∧ c.val < 8 ∨ 8 ≤ c.val ∧ c.val ≤ 11 ∨ 12 ≤ c.val ∧ c.val < 12 + fitted) →
    (∀ c, faulted c ↔ (s.channel c).status = .faultLow ∨ (s.channel c).status = .faultHigh) →
    ((∀ c, counted c → ¬faulted c) →
      s.judgeChannels = { s with arb := s.arb.report s.clock srcChannelFault false none none })
    ∧ (∀ c, counted c → faulted c → (∀ d, d < c → counted d → ¬faulted d) →
      s.judgeChannels = { s with
        arb := s.arb.report s.clock srcChannelFault true (some c.val)
          (some (.side (if (s.channel c).status = .faultHigh then .high else .low))) })

/-- A group B pass completes. Without a pass in progress nothing completes (log 6). Otherwise the eight channels are converted
and CHANNEL_FAULT judged (R125, R131; before the readers, log 31), a marked pass makes its tick due with what the tick reads of
this pass (R95, R106, R141), and an input whose reading the pass did not sample has the level it gives (log 6). Then the
four readers take it, each once, the ones named first, in an order nothing fixes (R125, log 3): the Atmosphere Controller; the
Attribution Unit, at a marked pass with its tick, or by leaving that as a step of its own (R94, log 4), else with the judgement
of BREAKTHROUGH (R106); the Feeder with VESSEL_HIGH and its permit (R73, R82, log 13); every fitted station with its rings (R27).
Whatever the order, the latest readings are those of B0 and B1, the duty is R90's for the state the pass leaves and stands in
the PWM's buffer, and the capture is marked read (R83, R90, R91, R147). The duty is 0 in AIR, 1000 in TRIPPED, elsewhere
Base and the truncated product, clamped to 0 to 1000. -/
def Obligations.GroupBPassCompletion : Prop :=
  (∀ (s : State) (raw : Vector Raw 8) (first : List PassReader) (apart : Bool),
    (s.scan.pass = none → exec (.groupBPassCompletion raw first apart) s = .next s)
    ∧ ∀ p, s.scan.pass = some p → ∃ (t u : State) (order : List PassReader),
      exec (.groupBPassCompletion raw first apart) s = .next t
      ∧ u = State.judgeChannels { s with
        channels := u.channels, scan := { s.scan with pass := none }, pins := { s.pins with analog := u.pins.analog }
        foam := { s.foam with
          tickDue := (if p.marked = true then
              some ⟨(u.channel 10).vesselReading, (u.channel 11).status, (u.channel 11).value⟩
            else s.foam.tickDue) } }
      ∧ (∀ k : Fin 8, u.channel ⟨8 + k.val, by omega⟩ = (s.channel ⟨8 + k.val, by omega⟩).convert raw[k]
        ∧ u.channel ⟨k.val, by omega⟩ = s.channel ⟨k.val, by omega⟩
        ∧ u.pins.analog[8 + k.val] = (if p.held[k.val]? = some raw[k] then s.pins.analog[8 + k.val] else raw[k])
        ∧ u.pins.analog[k.val] = s.pins.analog[k.val])
      ∧ order.Nodup ∧ (∀ r : PassReader, r ∈ order) ∧ first.dedup <+: order
      ∧ t = order.foldl (fun v r => match r with
        | .atmosphere => v.atmospherePass
        | .attribution =>
          if p.marked = true then (if apart = true then v else v.tickStep) else
          { v with
            foam := { v.foam with
              breakthrough := decide ((v.channel 11).status = .ok ∧ (v.item iLBreak : Int) < (v.channel 11).value) }
            arb := v.arb.report v.clock srcBreakthrough
              (decide ((v.channel 11).status = .ok ∧ (v.item iLBreak : Int) < (v.channel 11).value)) none
              (some (.number (v.channel 11).value)) }
        | .feeder => State.judgePermit { v with
            arb := v.arb.report v.clock srcVesselHigh
              (decide ((v.channel 10).status = .ok ∧ (v.item iVHigh : Int) ≤ (v.channel 10).value)) none
              (some (.number (v.channel 10).value)) }
        | .stations => (List.finRange 4).foldl (fun w n => if w.fitted n = true then w.judgeRings n else w) v) u
      ∧ t = { s with
        table := t.table, stations := t.stations, feeder := t.feeder, atm := t.atm, foam := t.foam, totals := t.totals
        channels := u.channels, scan := { s.scan with pass := none }, flow := { s.flow with unused := false }
        pwm := { s.pwm with buffer := t.atm.duty }, arb := t.arb
        pins := { s.pins with analog := u.pins.analog } }
      ∧ t.atm.latest = some ⟨(t.channel 8).value, (t.channel 9).value, (t.channel 8).status, (t.channel 9).status⟩
      ∧ t.atm.duty = dutyOf t.atm.state (t.channel 8).value (s.item iKp) (s.item iBase) (s.item iO2Set)
      ∧ (p.marked = true → (apart = true → t.foam.tickDue = u.foam.tickDue) ∧ (apart = false → t.foam.tickDue = none))
      ∧ (p.marked = false → t.foam.tickDue = s.foam.tickDue))
  ∧
  (∀ (o2 : Int) (kp base o2Set : Nat),
    dutyOf .air o2 kp base o2Set = 0 ∧ dutyOf .tripped o2 kp base o2Set = 1000
    ∧ ∀ st : AtmState, st ≠ .air → st ≠ .tripped → ∃ q : Int,
      (0 ≤ (kp : Int) * (o2 - o2Set) → 100 * q ≤ kp * (o2 - o2Set) ∧ (kp : Int) * (o2 - o2Set) < 100 * (q + 1))
      ∧ ((kp : Int) * (o2 - o2Set) < 0 → (kp : Int) * (o2 - o2Set) ≤ 100 * q ∧ 100 * (q - 1) < kp * (o2 - o2Set))
      ∧ (dutyOf st o2 kp base o2Set : Int) = max 0 (min 1000 (base + q)))

/-- A trip condition at the Atmosphere Controller's part of a pass trips it: the causes that hold are recorded, hold and margin
are cleared, a passing Feeder jams, an opening one gives its appliance back, every open window is flagged and no other record
changes, the duty is 1000, and the end of MARGIN_LOST, the raise of ATMOSPHERE_TRIP with its causes and a jam's FEED_JAM reach
the Arbiter in an order nothing fixes (log 14), before PURGE_NO_FLOW (R79, R86, R87, R88, R90). In TRIPPED a pass makes no
transition. -/
def Obligations.TripAtAPass : Prop :=
  ∀ (s t : State) (noFlow : Arbiter → Arbiter), t = s.atmospherePass →
    (∀ a, noFlow a = a.report s.clock srcNoFlow t.atm.noFlow none (some (.number s.flowRate))) →
    (s.atm.state = .tripped → t.atm.state = .tripped ∧ t.atm.tripCauses = s.atm.tripCauses ∧ t.atm.duty = 1000
      ∧ t.arb = noFlow s.arb)
    ∧ ∀ (c : TripCauses) (demand : Bool), s.atm.state ≠ .tripped →
      (demand = true ↔ s.flammableInside = true ∨ (∃ i, s.table.shredQueue.head? = some i ∧ s.flammableAt i = true)
        ∨ s.atm.hostHold = true) →
      (c.lflHigh = true ↔ (s.item iLTripLFL : Int) < (s.channel 9).value) →
      (c.o2High = true ↔ s.flammableInside = true ∧ (s.item iLTrip : Int) < (s.channel 8).value) →
      (c.sensor = true ↔ demand = true ∧ ((s.channel 8).status ≠ .ok ∨ (s.channel 9).status ≠ .ok)) →
      t.atm.demand = demand
      ∧ ((c.lflHigh || c.o2High || c.sensor) = true →
        t.atm.state = .tripped ∧ t.atm.tripCauses = some c ∧ t.atm.holdStart = none ∧ t.atm.marginLost = false
        ∧ t.atm.duty = 1000 ∧ t.pwm.buffer = 1000
        ∧ (∃ ops : List (Arbiter → Arbiter), t.arb = noFlow (ops.foldl (fun a f => f a) s.arb)
          ∧ ops.Perm ((fun a => a.report s.clock srcMarginLost false none none)
            :: (fun a => a.raise s.clock srcTrip none (some (.trip c)))
            :: if s.feeder.state = .passing then
                [fun a => a.raise s.clock srcFeedJam (s.table.feeding.map Fin.val) (some (.jam .trip))]
              else []))
        ∧ (∀ i r, i ∈ s.table.openSet → s.table.feeding ≠ some i → s.record i = some r →
          t.record i = some { r with flags := { r.flags with tripDuringWindow := true } })
        ∧ (∀ i, i ∉ s.table.openSet → s.table.feeding ≠ some i ∨ s.feeder.state ≠ .opening → t.record i = s.record i)
        ∧ (s.feeder.state = .passing →
          t.feeder = { s.feeder with state := .jammed, jam := some .trip, copied := none, deadline := none })
        ∧ (∀ i, s.feeder.state = .opening → s.table.feeding = some i →
          t.feeder.state = .waitPermit ∧ t.table.feeding = none ∧ t.table.shredQueue = i :: s.table.shredQueue
          ∧ (i ∉ s.table.openSet → t.record i = (s.record i).map fun r => { r with phase := .shredWait })))
      ∧ ((c.lflHigh || c.o2High || c.sensor) = false → t.atm.state ≠ .tripped ∧ t.atm.tripCauses = s.atm.tripCauses)

/-- The transitions of a pass without a trip, row by row (R88, R89). Margin lost becomes true at the transition from INERT to
INERTING, with what has failed as its value, and false at every entry to INERT or AIR; MARGIN_LOST is reported so, and at no
other transition (R88); PURGE_NO_FLOW is reported after it. That the hold start is absent once RECOVERING is done, and where
INERT is left for AIR, is the model's reading (log 24). -/
def Obligations.AtmosphereTransitions : Prop :=
  ∀ (s t : State) (demand o2 lfl healthy done : Bool) (noFlow : Arbiter → Arbiter) (stays safe : AtmState → Prop),
    t = s.atmospherePass → s.atm.state ≠ .tripped → t.atm.state ≠ .tripped →
    (∀ a, noFlow a = a.report s.clock srcNoFlow t.atm.noFlow none (some (.number s.flowRate))) →
    (∀ x, stays x ↔ t.atm.state = x ∧ t.atm.marginLost = s.atm.marginLost ∧ t.arb = noFlow s.arb) →
    (∀ x, safe x ↔ t.atm.state = x ∧ t.atm.marginLost = false ∧ t.atm.holdStart = none
      ∧ t.arb = noFlow (s.arb.report s.clock srcMarginLost false none none)) →
    demand = t.atm.demand → (o2 = true ↔ (s.channel 8).value ≤ (s.item iLInert : Int)) →
    (lfl = true ↔ (s.channel 9).value ≤ (s.item iLFeed : Int)) →
    (healthy = true ↔ (s.channel 8).status = .ok ∧ (s.channel 9).status = .ok) →
    (done = true ↔ ∃ h, s.atm.holdStart = some h ∧ s.atm.holdLength.getD 0 ≤ (s.clock - h).toNat) →
    (s.atm.state = .air → (demand = true ∨ lfl = false → stays .inerting ∧ t.atm.holdStart = none)
      ∧ (demand = false → lfl = true → stays .air))
    ∧ (s.atm.state = .inerting →
      (demand = false → lfl = true → safe .air)
      ∧ (demand = true → o2 = true → lfl = true →
        (s.atm.holdStart = none → stays .inerting ∧ t.atm.holdStart = some s.clock ∧ t.atm.holdLength = some (s.item iTHold))
        ∧ (done = true → safe .inert)
        ∧ (s.atm.holdStart ≠ none → done = false → stays .inerting ∧ t.atm.holdStart = s.atm.holdStart))
      ∧ (demand = true ∨ lfl = false → o2 = false ∨ lfl = false → stays .inerting ∧ t.atm.holdStart = none))
    ∧ (s.atm.state = .inert →
      (demand = false → lfl = true → safe .air)
      ∧ (demand = true ∨ lfl = false → o2 = false ∨ lfl = false →
        t.atm.state = .inerting ∧ t.atm.holdStart = none ∧ t.atm.marginLost = true
        ∧ t.arb = noFlow (s.arb.report s.clock srcMarginLost true none
          (some (.margin (if o2 = true then .lfl else if lfl = true then .o2 else .both)))))
      ∧ (demand = true → o2 = true → lfl = true → stays .inert))
    ∧ (s.atm.state = .recovering →
      (o2 = true → lfl = true → healthy = true →
        (s.atm.holdStart = none → stays .recovering ∧ t.atm.holdStart = some s.clock
          ∧ t.atm.holdLength = some (s.item iTHold))
        ∧ (done = true → safe (if demand = true then .inert else .air))
        ∧ (s.atm.holdStart ≠ none → done = false → stays .recovering ∧ t.atm.holdStart = s.atm.holdStart))
      ∧ (o2 = false ∨ lfl = false ∨ healthy = false → stays .recovering ∧ t.atm.holdStart = none))

/-- The nitrogen flow F: 0 without a previous capture or more than 5,000 ms after the latest, else from the latest interval (R148).
The supervision at a pass: a duty below 500 makes the high-duty start absent and the no-flow condition false; the first pass of
500 or more sets the start and copies T_nf; from the copied T_nf after it on, no-flow is that F is below F_min; every pass
reads F, which marks the capture used (R91, R147). Below 500 the copied T_nf is absent too (the model's choice, log 35). -/
def Obligations.NitrogenSupervision : Prop :=
  (∀ (x : Flow) (divider q : Nat) (now : Time),
    (x.previous = none → x.rate divider q now = 0)
    ∧ ∀ a b, x.latest = some a → x.previous = some b →
      (5000 < (now - a).toNat → x.rate divider q now = 0)
      ∧ ((now - a).toNat ≤ 5000 → x.rate divider q now
        = min 65535 (divider * q * 60 / if a = b then 1 else (a - b).toNat)))
  ∧ ∀ (s t : State) (f : Nat), t = s.atmospherePass → f = s.flow.rate (s.item iDivider) (s.item iQPulse) s.clock →
    s.flowRate = f ∧ t.flow = { s.flow with unused := false }
    ∧ (t.atm.duty < 500 → t.atm.highDutyStart = none ∧ t.atm.highDutyLength = none ∧ t.atm.noFlow = false)
    ∧ (500 ≤ t.atm.duty → s.atm.highDutyStart = none →
      t.atm.highDutyStart = some s.clock ∧ t.atm.highDutyLength = some (s.item iTNf) ∧ t.atm.noFlow = s.atm.noFlow)
    ∧ ∀ h l, 500 ≤ t.atm.duty → s.atm.highDutyStart = some h → s.atm.highDutyLength = some l →
      t.atm.highDutyStart = some h ∧ t.atm.highDutyLength = some l
      ∧ t.atm.noFlow = if l ≤ (s.clock - h).toNat then decide (f < s.item iFMin) else s.atm.noFlow

/-- The outputs (R26, R70, R80, R92, R163) as the states that decide them; the assertion of EMERGENCY STOP, where the blocks
agree, leaves no PIERCE, SUCTION or OIL DRAIN, no FEED GATE and no SHREDDER PERMIT on (R80, R170, R171). That an output is a
function of the state is the model's reading (log 18). -/
def Obligations.Outputs : Prop :=
  (∀ s : State,
    (∀ n, (s.pierceOut n = true ↔ (s.station n).state = .piercing) ∧ (s.suctionOut n = true ↔ (s.station n).state = .evacuating)
      ∧ (s.oilDrainOut n = true ↔ (s.station n).state = .drainingOil))
    ∧ (s.feedGateOut = true ↔ s.feeder.state = .opening ∨ s.feeder.state = .passing)
    ∧ (s.shredderPermitOut = true ↔ (s.line.state = .run ∨ s.line.state = .hold) ∧ s.atm.state ≠ .tripped
      ∧ s.feeder.state ≠ .jammed)
    ∧ (s.vesselDrainOut = true ↔ s.foam.drain = .active)
    ∧ (s.arb.noticeWaiting = true ↔ ∃ n ∈ s.arb.queue, s.arb.attention ≤ n.level))
  ∧ ∀ s : State, s.consistent → s.line.state ≠ .stop → s.line.emergencyMark = false →
    ∃ t : State, exec .emergencyStopAsserted s = .next t ∧ t.shredderPermitOut = false ∧ t.feedGateOut = false
      ∧ ∀ n, t.pierceOut n = false ∧ t.suctionOut n = false ∧ t.oilDrainOut n = false

/-- The Timing Unit's events: an edge of FLOW counts or is a capture (R147); the period timer starts a pass, which the
postscaler marks at its K-th count (R124, R139, R141); a PWM period follows the one before with the buffered duty, and
PURGE goes off at the end of its on-time (R150). The command FLOW_EDGE is one rising edge (log 29). -/
def Obligations.TimingEvents : Prop :=
  ∀ s : State,
    (s.flow.edges + 1 ≠ s.item iDivider → exec .flowEdge s = .next { s with
      flow := { s.flow with edges := s.flow.edges + 1 } })
    ∧ (s.flow.edges + 1 = s.item iDivider → exec .flowEdge s = .next { s with
      flow := { edges := 0, latest := some s.clock, previous := s.flow.latest, unused := true
                overwrites := if s.flow.unused = true ∧ s.flow.overwrites < 65535 then s.flow.overwrites + 1
                  else if s.flow.unused = true then 65535 else s.flow.overwrites } })
    ∧ (s.clock = s.period.nextDeadline → exec .atmospherePeriodExpiry s = .next { s with
      period := { nextDeadline := s.clock + BitVec.ofNat 32 (s.item iPa), lastExpiry := some s.clock
                  postscaler := if s.period.postscaler + 1 = s.item iK then 0 else s.period.postscaler + 1 }
      scan := { s.scan with
        pass := some { started := s.clock, marked := decide (s.period.postscaler + 1 = s.item iK), held := [] } } })
    ∧ ((s.clock - s.pwm.start).toNat = s.pwm.length → exec .pwmPeriodEnd s = .next { s with
      pwm := { start := s.clock, length := s.item iTPwm, active := s.pwm.buffer, buffer := s.pwm.buffer
               purge := decide (0 < s.pwm.buffer * s.item iTPwm / 1000) } })
    ∧ (s.pwm.purge = true → (s.clock - s.pwm.start).toNat = s.pwm.active * s.pwm.length / 1000 →
      s.pwm.active * s.pwm.length / 1000 < s.pwm.length →
      exec .purgeOnTimeEnd s = .next { s with pwm := { s.pwm with purge := false } })

/-! ### Foam gas attribution (chapter 5) -/

/-- What the first four parts of a tick fix: a sensor gap loses the baseline (R95); an absent baseline is taken and an ended
drain's account closed (R96); otherwise the baseline follows (R97), a drain tick gives nothing (R98), a loss grows the debt
and a gain repays it (R99). The division loses and adds nothing: what the members are given is the effective increment, each
its floor share and the first the remainder, which is less than the number of members (R100, R101). The vessel reading is there
with status OK and eight values in the ring alone: their mean rounded half up, clamped to 0 to 2,000,000 (R95). -/
def Obligations.TickArithmetic : Prop :=
  (∀ f : Foam,
    f.fix none = ⟨{ f with baseline := none }, 0, 0⟩
    ∧ ∀ v : Nat, (f.baseline = none →
        (f.drain ≠ .ended → f.fix (some v) = ⟨{ f with baseline := some v, debt := 0 }, 0, 0⟩)
        ∧ (f.drain = .ended → f.fix (some v) = ⟨{ f with baseline := some v, debt := 0, drain := .noDrain, drainStart := none }, 0,
          match f.drainStart with
          | none => 0
          | some d => d - v⟩))
      ∧ ∀ p, f.baseline = some p →
        (f.drain = .active → f.fix (some v) = ⟨{ f with baseline := some v }, 0, 0⟩)
        ∧ (f.drain ≠ .active → v < p →
          f.fix (some v) = ⟨{ f with baseline := some v, debt := min 2000000 (f.debt + (p - v)) }, 0, 0⟩)
        ∧ (f.drain ≠ .active → p ≤ v → v - p ≤ f.debt →
          f.fix (some v) = ⟨{ f with baseline := some v, debt := f.debt - (v - p) }, 0, 0⟩)
        ∧ (f.drain ≠ .active → p ≤ v → f.debt ≤ v - p →
          f.fix (some v) = ⟨{ f with baseline := some v, debt := 0 }, v - p - f.debt, 0⟩))
  ∧
  (∀ (s : State) (d w : Nat), s.table.openSet.Nodup → w = (s.table.openSet.map s.expectedAt).sum → 0 < w →
    (s.table.openSet.map (s.given d)).sum = d
    ∧ (∀ i, s.table.openSet.head? ≠ some i → s.given d i = d * s.expectedAt i / w)
    ∧ ∀ i, s.table.openSet.head? = some i →
      d * s.expectedAt i / w ≤ s.given d i ∧ s.given d i < d * s.expectedAt i / w + s.table.openSet.length)
  ∧
  (∀ c : Channel,
    (c.status ≠ .ok ∨ c.ring.length < 8 → c.vesselReading = none)
    ∧ (c.status = .ok → c.ring.length = 8 → ∃ m : Int, 8 * m ≤ c.ring.sum + 4 ∧ c.ring.sum + 4 < 8 * m + 8
      ∧ ∃ v, c.vesselReading = some v ∧ (v : Int) = max 0 (min 2000000 m)))

/-- The attribution tick on a member of the open-window set, where the table's parts agree: it is given its part and
flagged, counts down, and closes with its foam outcome at 0 or stays open (R94, R98, R100, R101, R103, R104, R106), with
RATIO_SATURATED where the exact quotient exceeds 1999 (R104). It reads its pass's vessel reading and B3 (R95, R106), and
BREAKTHROUGH follows what it judges. The command is the tick where one is due (log 4). -/
def Obligations.TickOnAMember : Prop :=
  ∀ (s : State) (i : Slot) (r q : Record) (k : Nat) (y : TickReadings) (x : TickFix), s.tableLaw → s.foam.tickDue = some y →
    i ∈ s.table.openSet → s.record i = some r → r.ticks = some k → x = s.foam.fix y.vessel →
    q = { r with
      foam := min 4294967295 (r.foam + if 0 < s.weight then s.given x.dEff i else 0)
      flags := { r.flags with
        sensorGap := r.flags.sensorGap || y.vessel.isNone
        drainGap := r.flags.drainGap || (s.foam.drain == .active) } } →
    ∃ t : State, exec .attributionTick s = .next t
      ∧ t.foam = { x.foam with breakthrough := t.foam.breakthrough, tickDue := none }
      ∧ (t.foam.breakthrough = true ↔ y.outletStatus = .ok ∧ (s.item iLBreak : Int) < y.outlet)
      ∧ t.arb.sources[srcBreakthrough].cond = t.foam.breakthrough
      ∧ (s.arb.sources[srcBreakthrough].cond = false → t.foam.breakthrough = true →
        t.arb.sources[srcBreakthrough].lastValue = some (.number y.outlet))
      ∧ (1 < k → i ∈ t.table.openSet ∧ t.record i = some { q with
        ticks := some (k - 1), flags := { q.flags with breakthrough := q.flags.breakthrough || t.foam.breakthrough } })
      ∧ (k ≤ 1 → i ∉ t.table.openSet ∧ i ∈ t.table.closedList
        ∧ (r.expected = 0 → t.record i = some { q with
          phase := .closed, ticks := none, closeTime := some s.clock, gamma := none, foamVerdict := some .noFoam })
        ∧ (0 < r.expected → ∀ g, g = q.foam * 1000 / r.expected → t.record i = some { q with
          phase := .closed, ticks := none, closeTime := some s.clock, gamma := some (min 1999 g)
          foamVerdict := some (if s.item iGammaMin ≤ min 1999 g then .adequate else .low)
          flags := { q.flags with
            ratioSaturated := q.flags.ratioSaturated || decide (1999 * r.expected < q.foam * 1000) } }))

/-- The amounts of a tick: captured takes the effective increment, and so does attributed where the open set has weight,
else the pool; drained takes the drain's account (R101, R102, R117); their values are stated where none of the four saturates.
The windows at their last tick close in the set's order (R18, R20, R103): they leave the open set, join the tail of the closed
list, and one after another, behind the tick's own amounts, are added to Totals with APPLIANCE_CLOSED raised (R21, R116). The
command is the tick where one is due (log 4). -/
def Obligations.TickAmounts : Prop :=
  ∀ (s t : State) (y : TickReadings) (x : TickFix) (w : Bool) (done : List Slot) (broken : Bool), s.tableLaw →
    s.foam.tickDue = some y → x = s.foam.fix y.vessel → exec .attributionTick s = .next t → w = decide (0 < s.weight) →
    done = s.table.openSet.filter (fun i => (s.record i).any fun r => r.ticks.any fun k => decide (k ≤ 1)) →
    broken = decide (y.outletStatus = .ok ∧ (s.item iLBreak : Int) < y.outlet) →
    (s.totals[totCaptured].value + x.dEff ≤ 4294967295 → s.totals[totAttributed].value + x.dEff ≤ 4294967295 →
      s.totals[totPool].value + x.dEff ≤ 4294967295 → s.totals[totDrained].value + x.drained ≤ 4294967295 →
      t.totals[totCaptured].value = s.totals[totCaptured].value + x.dEff
      ∧ t.totals[totAttributed].value = s.totals[totAttributed].value + (if w = true then x.dEff else 0)
      ∧ t.totals[totPool].value = s.totals[totPool].value + (if w = true then 0 else x.dEff)
      ∧ t.totals[totDrained].value = s.totals[totDrained].value + x.drained)
    ∧ t.table.closedList = s.table.closedList ++ done
    ∧ t.table.openSet = s.table.openSet.filter (fun i => !done.contains i)
    ∧ ∃ v : State, t.totals = v.totals ∧ t.arb = v.arb
      ∧ v = done.foldl
        (fun u i => match t.record i with
          | none => u
          | some r => (u.addClose r).raise srcClosed (some i.val) (some (.ident r.ident)))
        ((({ s with arb := s.arb.report s.clock srcBreakthrough broken none (some (.number y.outlet)) } : State).addTotal
          totCaptured x.dEff).addTotal (if w = true then totAttributed else totPool) x.dEff |>.addTotal totDrained x.drained)

/-- DRAIN BEGIN opens a drain, with the baseline as its start level where none is open or unsettled (R107); DRAIN END ends an
active one and loses the baseline (R108); each is refused WRONG_PHASE otherwise. INERT HOLD ON and OFF set and clear the host
hold (R85). TRIP RESET is refused outside TRIPPED and where the latest readings do not allow it; otherwise the controller
recovers and the Feeder judges its permit (R73, R89), within the step (log 13). -/
def Obligations.DrainsHoldAndTripReset : Prop :=
  (∀ (s : State) (tag : Byte), s.link.rx ≠ .replying →
    (s.foam.drain = .active →
      exec (.drainBegin tag) s = .next (s.replied 18 tag (bare .wrongPhase))
      ∧ exec (.drainEnd tag) s = .next (State.replied
        { s with foam := { s.foam with drain := .ended, baseline := none } } 19 tag (bare .done)))
    ∧ (s.foam.drain = .noDrain → exec (.drainBegin tag) s = .next (State.replied
      { s with foam := { s.foam with drain := .active, drainStart := s.foam.baseline } } 18 tag (bare .done)))
    ∧ (s.foam.drain = .ended → exec (.drainBegin tag) s = .next (State.replied
      { s with foam := { s.foam with drain := .active } } 18 tag (bare .done)))
    ∧ (s.foam.drain ≠ .active → exec (.drainEnd tag) s = .next (s.replied 19 tag (bare .wrongPhase))))
  ∧
  (∀ (s : State) (tag : Byte), s.link.rx ≠ .replying →
    exec (.inertHoldOn tag) s = .next (State.replied { s with atm := { s.atm with hostHold := true } } 15 tag (bare .done))
    ∧ exec (.inertHoldOff tag) s
      = .next (State.replied { s with atm := { s.atm with hostHold := false } } 16 tag (bare .done))
    ∧ (s.atm.state ≠ .tripped → exec (.tripReset tag) s = .next (s.replied 17 tag (bare .wrongPhase)))
    ∧ (s.atm.state = .tripped → ∀ fits : Prop,
      (fits ↔ ∃ r, s.atm.latest = some r ∧ r.o2 ≤ (s.item iLInert : Int) ∧ r.lfl ≤ (s.item iLFeed : Int)
        ∧ r.o2Status = .ok ∧ r.lflStatus = .ok) →
      (¬fits → exec (.tripReset tag) s = .next (s.replied 17 tag (bare .tripConditions)))
      ∧ (fits → exec (.tripReset tag) s = .next (State.replied (State.judgePermit { s with
        atm := { s.atm with state := .recovering, tripCauses := none, holdStart := none, holdLength := none } }) 17 tag
        (bare .done)))))

/-! ### Configuration (chapters 4, 7, 8 and 11) -/

/-- SET CONFIG clamps a value to its range and then by the order of the limits, holds durations in ms, and answers the value
taken, with CLAMPED where a clamp changed it; the flow divider takes 1, 4 and 16 alone; K clears the postscaler, the divider
the FLOW channel (R84, R142, R149, R189). A Pa is counted from the last expiry, before the first from 0; one already passed
lets the period expire (in the model's reading of log 12); after an expiry taken first at this reading the deadline stands
(R140). A new V_high judges VESSEL_HIGH and the permit within the step (R73, R82, log 13). -/
def Obligations.SetConfig : Prop :=
  ∀ (s : State) (tag item : Byte) (value : Word), s.link.rx ≠ .replying →
    (item.toNat = 0 ∨ 44 < item.toNat ∨ item.toNat = 34 ∧ value.toNat ≠ 1 ∧ value.toNat ≠ 4 ∧ value.toNat ≠ 16 →
      exec (.setConfig tag item value) s = .next (s.replied 20 tag (bare .badField)))
    ∧ ∀ (i : Item) (v w : Nat) (t : State), item.toNat = i.val + 1 →
      (i = iDivider → value.toNat = 1 ∨ value.toNat = 4 ∨ value.toNat = 16) →
      w = max (itemRow i).lo (min (itemRow i).hi value.toNat) →
      v = (if i = iO2Set then min w (s.item iLInert - 1)
        else if i = iLInert then min (max w (s.item iO2Set + 1)) (s.item iLTrip - 1)
        else if i = iLTrip then max w (s.item iLInert + 1)
        else if i = iLFeed then min w (s.item iLTripLFL - 1)
        else if i = iLTripLFL then max w (s.item iLFeed + 1)
        else w) →
      t = { s with settings := s.settings.set i (v * (itemRow i).scale) } →
      ∀ a : Answer, a = ⟨.done, decide (v ≠ value.toNat), item :: num4 v⟩ →
      (i ≠ iPa → i ≠ iK → i ≠ iDivider → i ≠ iVHigh → exec (.setConfig tag item value) s = .next (t.replied 20 tag a))
      ∧ (i = iK → exec (.setConfig tag item value) s
        = .next (State.replied { t with period := { s.period with postscaler := 0 } } 20 tag a))
      ∧ (i = iDivider → exec (.setConfig tag item value) s = .next (State.replied
        { t with flow := { s.flow with edges := 0, latest := none, previous := none, unused := false } } 20 tag a))
      ∧ (i = iVHigh → exec (.setConfig tag item value) s = .next (State.replied (State.judgePermit { t with
        arb := s.arb.report s.clock srcVesselHigh
          (decide ((s.channel 10).status = .ok ∧ (v : Int) ≤ (s.channel 10).value)) none
          (some (.number (s.channel 10).value)) }) 20 tag a))
      ∧ (i = iPa → s.period.lastExpiry = some s.clock → exec (.setConfig tag item value) s = .next (t.replied 20 tag a))
      ∧ (i = iPa → s.period.lastExpiry ≠ some s.clock → ∀ last : Time, last = s.period.lastExpiry.getD 0 →
        ((s.clock - last).toNat < v → exec (.setConfig tag item value) s
          = .next (State.replied { t with period := { s.period with nextDeadline := last + BitVec.ofNat 32 v } } 20 tag a))
        ∧ (v ≤ (s.clock - last).toNat → exec (.setConfig tag item value) s
          = .next (State.replied { t with
            period := { nextDeadline := s.clock + BitVec.ofNat 32 v, lastExpiry := some s.clock
                        postscaler := if s.period.postscaler + 1 = s.item iK then 0 else s.period.postscaler + 1 }
            scan := { s.scan with
              pass := some { started := s.clock, marked := decide (s.period.postscaler + 1 = s.item iK), held := [] } } } 20
            tag a)))

/-- SET CHANNEL takes its five values, each clamped to its range and the high limit raised to the low one, with CLAMPED where
a value was changed; the ring restarts, the held value is clamped into the limits, status and raw stay (R121, R132). -/
def Obligations.SetChannel : Prop :=
  ∀ (s : State) (tag channel : Byte) (zero span low high band : Word), s.link.rx ≠ .replying →
    (15 < channel.toNat →
      exec (.setChannel tag channel zero span low high band) s = .next (s.replied 22 tag (bare .badField)))
    ∧ ∀ (c : ChannelNo) (lim : Int → Int) (z p l h : Int) (b : Nat), channel.toNat = c.val →
      (∀ x, lim x = max (-10000000) (min 10000000 x)) → z = lim zero.toInt → p = lim span.toInt → l = lim low.toInt →
      h = max l (lim high.toInt) → b = min 1000000 band.toNat →
      exec (.setChannel tag channel zero span low high band) s = .next (State.replied { s with
        channels := s.channels.set c { s.channel c with
          zero := z, span := p, low := l, high := h, band := b, ring := []
          value := max l (min h (s.channel c).value) } } 22 tag
        ⟨.done, decide (z ≠ zero.toInt ∨ p ≠ span.toInt ∨ l ≠ low.toInt ∨ h ≠ high.toInt ∨ b ≠ band.toNat),
          int4 z ++ int4 p ++ int4 l ++ int4 h ++ num4 b⟩)
end

