-- ==== Sys2Proof/Laws/State.lean ====
section
/-! SUPPORT. What each update of the state leaves as it is: one lemma for each field and update, by definition. -/

namespace Sys2Proof.Machine

variable (s : State)

/-! ### `State.modRecord` -/

@[simp] theorem State.modRecord_stations (i : Slot) (f : Record → Record) : (s.modRecord i f).stations = s.stations := rfl
@[simp] theorem State.modRecord_feeder (i : Slot) (f : Record → Record) : (s.modRecord i f).feeder = s.feeder := rfl
@[simp] theorem State.modRecord_atm (i : Slot) (f : Record → Record) : (s.modRecord i f).atm = s.atm := rfl
@[simp] theorem State.modRecord_foam (i : Slot) (f : Record → Record) : (s.modRecord i f).foam = s.foam := rfl
@[simp] theorem State.modRecord_totals (i : Slot) (f : Record → Record) : (s.modRecord i f).totals = s.totals := rfl
@[simp] theorem State.modRecord_totalsStart (i : Slot) (f : Record → Record) : (s.modRecord i f).totalsStart = s.totalsStart := rfl
@[simp] theorem State.modRecord_channels (i : Slot) (f : Record → Record) : (s.modRecord i f).channels = s.channels := rfl
@[simp] theorem State.modRecord_scan (i : Slot) (f : Record → Record) : (s.modRecord i f).scan = s.scan := rfl
@[simp] theorem State.modRecord_clock (i : Slot) (f : Record → Record) : (s.modRecord i f).clock = s.clock := rfl
@[simp] theorem State.modRecord_period (i : Slot) (f : Record → Record) : (s.modRecord i f).period = s.period := rfl
@[simp] theorem State.modRecord_flow (i : Slot) (f : Record → Record) : (s.modRecord i f).flow = s.flow := rfl
@[simp] theorem State.modRecord_pwm (i : Slot) (f : Record → Record) : (s.modRecord i f).pwm = s.pwm := rfl
@[simp] theorem State.modRecord_arb (i : Slot) (f : Record → Record) : (s.modRecord i f).arb = s.arb := rfl
@[simp] theorem State.modRecord_line (i : Slot) (f : Record → Record) : (s.modRecord i f).line = s.line := rfl
@[simp] theorem State.modRecord_link (i : Slot) (f : Record → Record) : (s.modRecord i f).link = s.link := rfl
@[simp] theorem State.modRecord_settings (i : Slot) (f : Record → Record) : (s.modRecord i f).settings = s.settings := rfl
@[simp] theorem State.modRecord_fitted4 (i : Slot) (f : Record → Record) : (s.modRecord i f).fitted4 = s.fitted4 := rfl
@[simp] theorem State.modRecord_pins (i : Slot) (f : Record → Record) : (s.modRecord i f).pins = s.pins := rfl
@[simp] theorem State.modRecord_free (i : Slot) (f : Record → Record) : (s.modRecord i f).free = s.free := rfl
@[simp] theorem State.modRecord_pending (i : Slot) (f : Record → Record) : (s.modRecord i f).pending = s.pending := rfl

/-! ### `State.modStation` -/

@[simp] theorem State.modStation_table (n : StationNo) (f : Station → Station) : (s.modStation n f).table = s.table := rfl
@[simp] theorem State.modStation_feeder (n : StationNo) (f : Station → Station) : (s.modStation n f).feeder = s.feeder := rfl
@[simp] theorem State.modStation_atm (n : StationNo) (f : Station → Station) : (s.modStation n f).atm = s.atm := rfl
@[simp] theorem State.modStation_foam (n : StationNo) (f : Station → Station) : (s.modStation n f).foam = s.foam := rfl
@[simp] theorem State.modStation_totals (n : StationNo) (f : Station → Station) : (s.modStation n f).totals = s.totals := rfl
@[simp] theorem State.modStation_totalsStart (n : StationNo) (f : Station → Station) : (s.modStation n f).totalsStart = s.totalsStart := rfl
@[simp] theorem State.modStation_channels (n : StationNo) (f : Station → Station) : (s.modStation n f).channels = s.channels := rfl
@[simp] theorem State.modStation_scan (n : StationNo) (f : Station → Station) : (s.modStation n f).scan = s.scan := rfl
@[simp] theorem State.modStation_clock (n : StationNo) (f : Station → Station) : (s.modStation n f).clock = s.clock := rfl
@[simp] theorem State.modStation_period (n : StationNo) (f : Station → Station) : (s.modStation n f).period = s.period := rfl
@[simp] theorem State.modStation_flow (n : StationNo) (f : Station → Station) : (s.modStation n f).flow = s.flow := rfl
@[simp] theorem State.modStation_pwm (n : StationNo) (f : Station → Station) : (s.modStation n f).pwm = s.pwm := rfl
@[simp] theorem State.modStation_arb (n : StationNo) (f : Station → Station) : (s.modStation n f).arb = s.arb := rfl
@[simp] theorem State.modStation_line (n : StationNo) (f : Station → Station) : (s.modStation n f).line = s.line := rfl
@[simp] theorem State.modStation_link (n : StationNo) (f : Station → Station) : (s.modStation n f).link = s.link := rfl
@[simp] theorem State.modStation_settings (n : StationNo) (f : Station → Station) : (s.modStation n f).settings = s.settings := rfl
@[simp] theorem State.modStation_fitted4 (n : StationNo) (f : Station → Station) : (s.modStation n f).fitted4 = s.fitted4 := rfl
@[simp] theorem State.modStation_pins (n : StationNo) (f : Station → Station) : (s.modStation n f).pins = s.pins := rfl
@[simp] theorem State.modStation_free (n : StationNo) (f : Station → Station) : (s.modStation n f).free = s.free := rfl
@[simp] theorem State.modStation_pending (n : StationNo) (f : Station → Station) : (s.modStation n f).pending = s.pending := rfl

/-! ### `State.modChannel` -/

@[simp] theorem State.modChannel_table (c : ChannelNo) (f : Channel → Channel) : (s.modChannel c f).table = s.table := rfl
@[simp] theorem State.modChannel_stations (c : ChannelNo) (f : Channel → Channel) : (s.modChannel c f).stations = s.stations := rfl
@[simp] theorem State.modChannel_feeder (c : ChannelNo) (f : Channel → Channel) : (s.modChannel c f).feeder = s.feeder := rfl
@[simp] theorem State.modChannel_atm (c : ChannelNo) (f : Channel → Channel) : (s.modChannel c f).atm = s.atm := rfl
@[simp] theorem State.modChannel_foam (c : ChannelNo) (f : Channel → Channel) : (s.modChannel c f).foam = s.foam := rfl
@[simp] theorem State.modChannel_totals (c : ChannelNo) (f : Channel → Channel) : (s.modChannel c f).totals = s.totals := rfl
@[simp] theorem State.modChannel_totalsStart (c : ChannelNo) (f : Channel → Channel) : (s.modChannel c f).totalsStart = s.totalsStart := rfl
@[simp] theorem State.modChannel_scan (c : ChannelNo) (f : Channel → Channel) : (s.modChannel c f).scan = s.scan := rfl
@[simp] theorem State.modChannel_clock (c : ChannelNo) (f : Channel → Channel) : (s.modChannel c f).clock = s.clock := rfl
@[simp] theorem State.modChannel_period (c : ChannelNo) (f : Channel → Channel) : (s.modChannel c f).period = s.period := rfl
@[simp] theorem State.modChannel_flow (c : ChannelNo) (f : Channel → Channel) : (s.modChannel c f).flow = s.flow := rfl
@[simp] theorem State.modChannel_pwm (c : ChannelNo) (f : Channel → Channel) : (s.modChannel c f).pwm = s.pwm := rfl
@[simp] theorem State.modChannel_arb (c : ChannelNo) (f : Channel → Channel) : (s.modChannel c f).arb = s.arb := rfl
@[simp] theorem State.modChannel_line (c : ChannelNo) (f : Channel → Channel) : (s.modChannel c f).line = s.line := rfl
@[simp] theorem State.modChannel_link (c : ChannelNo) (f : Channel → Channel) : (s.modChannel c f).link = s.link := rfl
@[simp] theorem State.modChannel_settings (c : ChannelNo) (f : Channel → Channel) : (s.modChannel c f).settings = s.settings := rfl
@[simp] theorem State.modChannel_fitted4 (c : ChannelNo) (f : Channel → Channel) : (s.modChannel c f).fitted4 = s.fitted4 := rfl
@[simp] theorem State.modChannel_pins (c : ChannelNo) (f : Channel → Channel) : (s.modChannel c f).pins = s.pins := rfl
@[simp] theorem State.modChannel_free (c : ChannelNo) (f : Channel → Channel) : (s.modChannel c f).free = s.free := rfl
@[simp] theorem State.modChannel_pending (c : ChannelNo) (f : Channel → Channel) : (s.modChannel c f).pending = s.pending := rfl

/-! ### `State.raise` -/

@[simp] theorem State.raise_table (i : SourceNo) (x : Option Nat) (v : Option Value) : (s.raise i x v).table = s.table := rfl
@[simp] theorem State.raise_stations (i : SourceNo) (x : Option Nat) (v : Option Value) : (s.raise i x v).stations = s.stations := rfl
@[simp] theorem State.raise_feeder (i : SourceNo) (x : Option Nat) (v : Option Value) : (s.raise i x v).feeder = s.feeder := rfl
@[simp] theorem State.raise_atm (i : SourceNo) (x : Option Nat) (v : Option Value) : (s.raise i x v).atm = s.atm := rfl
@[simp] theorem State.raise_foam (i : SourceNo) (x : Option Nat) (v : Option Value) : (s.raise i x v).foam = s.foam := rfl
@[simp] theorem State.raise_totals (i : SourceNo) (x : Option Nat) (v : Option Value) : (s.raise i x v).totals = s.totals := rfl
@[simp] theorem State.raise_totalsStart (i : SourceNo) (x : Option Nat) (v : Option Value) : (s.raise i x v).totalsStart = s.totalsStart := rfl
@[simp] theorem State.raise_channels (i : SourceNo) (x : Option Nat) (v : Option Value) : (s.raise i x v).channels = s.channels := rfl
@[simp] theorem State.raise_scan (i : SourceNo) (x : Option Nat) (v : Option Value) : (s.raise i x v).scan = s.scan := rfl
@[simp] theorem State.raise_clock (i : SourceNo) (x : Option Nat) (v : Option Value) : (s.raise i x v).clock = s.clock := rfl
@[simp] theorem State.raise_period (i : SourceNo) (x : Option Nat) (v : Option Value) : (s.raise i x v).period = s.period := rfl
@[simp] theorem State.raise_flow (i : SourceNo) (x : Option Nat) (v : Option Value) : (s.raise i x v).flow = s.flow := rfl
@[simp] theorem State.raise_pwm (i : SourceNo) (x : Option Nat) (v : Option Value) : (s.raise i x v).pwm = s.pwm := rfl
@[simp] theorem State.raise_line (i : SourceNo) (x : Option Nat) (v : Option Value) : (s.raise i x v).line = s.line := rfl
@[simp] theorem State.raise_link (i : SourceNo) (x : Option Nat) (v : Option Value) : (s.raise i x v).link = s.link := rfl
@[simp] theorem State.raise_settings (i : SourceNo) (x : Option Nat) (v : Option Value) : (s.raise i x v).settings = s.settings := rfl
@[simp] theorem State.raise_fitted4 (i : SourceNo) (x : Option Nat) (v : Option Value) : (s.raise i x v).fitted4 = s.fitted4 := rfl
@[simp] theorem State.raise_pins (i : SourceNo) (x : Option Nat) (v : Option Value) : (s.raise i x v).pins = s.pins := rfl
@[simp] theorem State.raise_free (i : SourceNo) (x : Option Nat) (v : Option Value) : (s.raise i x v).free = s.free := rfl
@[simp] theorem State.raise_pending (i : SourceNo) (x : Option Nat) (v : Option Value) : (s.raise i x v).pending = s.pending := rfl

/-! ### `State.report` -/

@[simp] theorem State.report_table (i : SourceNo) (b : Bool) (x : Option Nat) (v : Option Value) : (s.report i b x v).table = s.table := rfl
@[simp] theorem State.report_stations (i : SourceNo) (b : Bool) (x : Option Nat) (v : Option Value) : (s.report i b x v).stations = s.stations := rfl
@[simp] theorem State.report_feeder (i : SourceNo) (b : Bool) (x : Option Nat) (v : Option Value) : (s.report i b x v).feeder = s.feeder := rfl
@[simp] theorem State.report_atm (i : SourceNo) (b : Bool) (x : Option Nat) (v : Option Value) : (s.report i b x v).atm = s.atm := rfl
@[simp] theorem State.report_foam (i : SourceNo) (b : Bool) (x : Option Nat) (v : Option Value) : (s.report i b x v).foam = s.foam := rfl
@[simp] theorem State.report_totals (i : SourceNo) (b : Bool) (x : Option Nat) (v : Option Value) : (s.report i b x v).totals = s.totals := rfl
@[simp] theorem State.report_totalsStart (i : SourceNo) (b : Bool) (x : Option Nat) (v : Option Value) : (s.report i b x v).totalsStart = s.totalsStart := rfl
@[simp] theorem State.report_channels (i : SourceNo) (b : Bool) (x : Option Nat) (v : Option Value) : (s.report i b x v).channels = s.channels := rfl
@[simp] theorem State.report_scan (i : SourceNo) (b : Bool) (x : Option Nat) (v : Option Value) : (s.report i b x v).scan = s.scan := rfl
@[simp] theorem State.report_clock (i : SourceNo) (b : Bool) (x : Option Nat) (v : Option Value) : (s.report i b x v).clock = s.clock := rfl
@[simp] theorem State.report_period (i : SourceNo) (b : Bool) (x : Option Nat) (v : Option Value) : (s.report i b x v).period = s.period := rfl
@[simp] theorem State.report_flow (i : SourceNo) (b : Bool) (x : Option Nat) (v : Option Value) : (s.report i b x v).flow = s.flow := rfl
@[simp] theorem State.report_pwm (i : SourceNo) (b : Bool) (x : Option Nat) (v : Option Value) : (s.report i b x v).pwm = s.pwm := rfl
@[simp] theorem State.report_line (i : SourceNo) (b : Bool) (x : Option Nat) (v : Option Value) : (s.report i b x v).line = s.line := rfl
@[simp] theorem State.report_link (i : SourceNo) (b : Bool) (x : Option Nat) (v : Option Value) : (s.report i b x v).link = s.link := rfl
@[simp] theorem State.report_settings (i : SourceNo) (b : Bool) (x : Option Nat) (v : Option Value) : (s.report i b x v).settings = s.settings := rfl
@[simp] theorem State.report_fitted4 (i : SourceNo) (b : Bool) (x : Option Nat) (v : Option Value) : (s.report i b x v).fitted4 = s.fitted4 := rfl
@[simp] theorem State.report_pins (i : SourceNo) (b : Bool) (x : Option Nat) (v : Option Value) : (s.report i b x v).pins = s.pins := rfl
@[simp] theorem State.report_free (i : SourceNo) (b : Bool) (x : Option Nat) (v : Option Value) : (s.report i b x v).free = s.free := rfl
@[simp] theorem State.report_pending (i : SourceNo) (b : Bool) (x : Option Nat) (v : Option Value) : (s.report i b x v).pending = s.pending := rfl

/-! ### `State.setItem` -/

@[simp] theorem State.setItem_table (i : Item) (v : Nat) : (s.setItem i v).table = s.table := rfl
@[simp] theorem State.setItem_stations (i : Item) (v : Nat) : (s.setItem i v).stations = s.stations := rfl
@[simp] theorem State.setItem_feeder (i : Item) (v : Nat) : (s.setItem i v).feeder = s.feeder := rfl
@[simp] theorem State.setItem_atm (i : Item) (v : Nat) : (s.setItem i v).atm = s.atm := rfl
@[simp] theorem State.setItem_foam (i : Item) (v : Nat) : (s.setItem i v).foam = s.foam := rfl
@[simp] theorem State.setItem_totals (i : Item) (v : Nat) : (s.setItem i v).totals = s.totals := rfl
@[simp] theorem State.setItem_totalsStart (i : Item) (v : Nat) : (s.setItem i v).totalsStart = s.totalsStart := rfl
@[simp] theorem State.setItem_channels (i : Item) (v : Nat) : (s.setItem i v).channels = s.channels := rfl
@[simp] theorem State.setItem_scan (i : Item) (v : Nat) : (s.setItem i v).scan = s.scan := rfl
@[simp] theorem State.setItem_clock (i : Item) (v : Nat) : (s.setItem i v).clock = s.clock := rfl
@[simp] theorem State.setItem_period (i : Item) (v : Nat) : (s.setItem i v).period = s.period := rfl
@[simp] theorem State.setItem_flow (i : Item) (v : Nat) : (s.setItem i v).flow = s.flow := rfl
@[simp] theorem State.setItem_pwm (i : Item) (v : Nat) : (s.setItem i v).pwm = s.pwm := rfl
@[simp] theorem State.setItem_arb (i : Item) (v : Nat) : (s.setItem i v).arb = s.arb := rfl
@[simp] theorem State.setItem_line (i : Item) (v : Nat) : (s.setItem i v).line = s.line := rfl
@[simp] theorem State.setItem_link (i : Item) (v : Nat) : (s.setItem i v).link = s.link := rfl
@[simp] theorem State.setItem_fitted4 (i : Item) (v : Nat) : (s.setItem i v).fitted4 = s.fitted4 := rfl
@[simp] theorem State.setItem_pins (i : Item) (v : Nat) : (s.setItem i v).pins = s.pins := rfl
@[simp] theorem State.setItem_free (i : Item) (v : Nat) : (s.setItem i v).free = s.free := rfl
@[simp] theorem State.setItem_pending (i : Item) (v : Nat) : (s.setItem i v).pending = s.pending := rfl

/-! ### `State.setAtm` -/

@[simp] theorem State.setAtm_table (x : AtmState) : (s.setAtm x).table = s.table := rfl
@[simp] theorem State.setAtm_stations (x : AtmState) : (s.setAtm x).stations = s.stations := rfl
@[simp] theorem State.setAtm_feeder (x : AtmState) : (s.setAtm x).feeder = s.feeder := rfl
@[simp] theorem State.setAtm_foam (x : AtmState) : (s.setAtm x).foam = s.foam := rfl
@[simp] theorem State.setAtm_totals (x : AtmState) : (s.setAtm x).totals = s.totals := rfl
@[simp] theorem State.setAtm_totalsStart (x : AtmState) : (s.setAtm x).totalsStart = s.totalsStart := rfl
@[simp] theorem State.setAtm_channels (x : AtmState) : (s.setAtm x).channels = s.channels := rfl
@[simp] theorem State.setAtm_scan (x : AtmState) : (s.setAtm x).scan = s.scan := rfl
@[simp] theorem State.setAtm_clock (x : AtmState) : (s.setAtm x).clock = s.clock := rfl
@[simp] theorem State.setAtm_period (x : AtmState) : (s.setAtm x).period = s.period := rfl
@[simp] theorem State.setAtm_flow (x : AtmState) : (s.setAtm x).flow = s.flow := rfl
@[simp] theorem State.setAtm_pwm (x : AtmState) : (s.setAtm x).pwm = s.pwm := rfl
@[simp] theorem State.setAtm_arb (x : AtmState) : (s.setAtm x).arb = s.arb := rfl
@[simp] theorem State.setAtm_line (x : AtmState) : (s.setAtm x).line = s.line := rfl
@[simp] theorem State.setAtm_link (x : AtmState) : (s.setAtm x).link = s.link := rfl
@[simp] theorem State.setAtm_settings (x : AtmState) : (s.setAtm x).settings = s.settings := rfl
@[simp] theorem State.setAtm_fitted4 (x : AtmState) : (s.setAtm x).fitted4 = s.fitted4 := rfl
@[simp] theorem State.setAtm_pins (x : AtmState) : (s.setAtm x).pins = s.pins := rfl
@[simp] theorem State.setAtm_free (x : AtmState) : (s.setAtm x).free = s.free := rfl
@[simp] theorem State.setAtm_pending (x : AtmState) : (s.setAtm x).pending = s.pending := rfl

/-! ### `State.feederTimed` -/

@[simp] theorem State.feederTimed_table (x : FeederState) (i : Item) : (s.feederTimed x i).table = s.table := rfl
@[simp] theorem State.feederTimed_stations (x : FeederState) (i : Item) : (s.feederTimed x i).stations = s.stations := rfl
@[simp] theorem State.feederTimed_atm (x : FeederState) (i : Item) : (s.feederTimed x i).atm = s.atm := rfl
@[simp] theorem State.feederTimed_foam (x : FeederState) (i : Item) : (s.feederTimed x i).foam = s.foam := rfl
@[simp] theorem State.feederTimed_totals (x : FeederState) (i : Item) : (s.feederTimed x i).totals = s.totals := rfl
@[simp] theorem State.feederTimed_totalsStart (x : FeederState) (i : Item) : (s.feederTimed x i).totalsStart = s.totalsStart := rfl
@[simp] theorem State.feederTimed_channels (x : FeederState) (i : Item) : (s.feederTimed x i).channels = s.channels := rfl
@[simp] theorem State.feederTimed_scan (x : FeederState) (i : Item) : (s.feederTimed x i).scan = s.scan := rfl
@[simp] theorem State.feederTimed_clock (x : FeederState) (i : Item) : (s.feederTimed x i).clock = s.clock := rfl
@[simp] theorem State.feederTimed_period (x : FeederState) (i : Item) : (s.feederTimed x i).period = s.period := rfl
@[simp] theorem State.feederTimed_flow (x : FeederState) (i : Item) : (s.feederTimed x i).flow = s.flow := rfl
@[simp] theorem State.feederTimed_pwm (x : FeederState) (i : Item) : (s.feederTimed x i).pwm = s.pwm := rfl
@[simp] theorem State.feederTimed_arb (x : FeederState) (i : Item) : (s.feederTimed x i).arb = s.arb := rfl
@[simp] theorem State.feederTimed_line (x : FeederState) (i : Item) : (s.feederTimed x i).line = s.line := rfl
@[simp] theorem State.feederTimed_link (x : FeederState) (i : Item) : (s.feederTimed x i).link = s.link := rfl
@[simp] theorem State.feederTimed_settings (x : FeederState) (i : Item) : (s.feederTimed x i).settings = s.settings := rfl
@[simp] theorem State.feederTimed_fitted4 (x : FeederState) (i : Item) : (s.feederTimed x i).fitted4 = s.fitted4 := rfl
@[simp] theorem State.feederTimed_pins (x : FeederState) (i : Item) : (s.feederTimed x i).pins = s.pins := rfl
@[simp] theorem State.feederTimed_free (x : FeederState) (i : Item) : (s.feederTimed x i).free = s.free := rfl
@[simp] theorem State.feederTimed_pending (x : FeederState) (i : Item) : (s.feederTimed x i).pending = s.pending := rfl

/-! ### `State.feederUntimed` -/

@[simp] theorem State.feederUntimed_table (x : FeederState) : (s.feederUntimed x).table = s.table := rfl
@[simp] theorem State.feederUntimed_stations (x : FeederState) : (s.feederUntimed x).stations = s.stations := rfl
@[simp] theorem State.feederUntimed_atm (x : FeederState) : (s.feederUntimed x).atm = s.atm := rfl
@[simp] theorem State.feederUntimed_foam (x : FeederState) : (s.feederUntimed x).foam = s.foam := rfl
@[simp] theorem State.feederUntimed_totals (x : FeederState) : (s.feederUntimed x).totals = s.totals := rfl
@[simp] theorem State.feederUntimed_totalsStart (x : FeederState) : (s.feederUntimed x).totalsStart = s.totalsStart := rfl
@[simp] theorem State.feederUntimed_channels (x : FeederState) : (s.feederUntimed x).channels = s.channels := rfl
@[simp] theorem State.feederUntimed_scan (x : FeederState) : (s.feederUntimed x).scan = s.scan := rfl
@[simp] theorem State.feederUntimed_clock (x : FeederState) : (s.feederUntimed x).clock = s.clock := rfl
@[simp] theorem State.feederUntimed_period (x : FeederState) : (s.feederUntimed x).period = s.period := rfl
@[simp] theorem State.feederUntimed_flow (x : FeederState) : (s.feederUntimed x).flow = s.flow := rfl
@[simp] theorem State.feederUntimed_pwm (x : FeederState) : (s.feederUntimed x).pwm = s.pwm := rfl
@[simp] theorem State.feederUntimed_arb (x : FeederState) : (s.feederUntimed x).arb = s.arb := rfl
@[simp] theorem State.feederUntimed_line (x : FeederState) : (s.feederUntimed x).line = s.line := rfl
@[simp] theorem State.feederUntimed_link (x : FeederState) : (s.feederUntimed x).link = s.link := rfl
@[simp] theorem State.feederUntimed_settings (x : FeederState) : (s.feederUntimed x).settings = s.settings := rfl
@[simp] theorem State.feederUntimed_fitted4 (x : FeederState) : (s.feederUntimed x).fitted4 = s.fitted4 := rfl
@[simp] theorem State.feederUntimed_pins (x : FeederState) : (s.feederUntimed x).pins = s.pins := rfl
@[simp] theorem State.feederUntimed_free (x : FeederState) : (s.feederUntimed x).free = s.free := rfl
@[simp] theorem State.feederUntimed_pending (x : FeederState) : (s.feederUntimed x).pending = s.pending := rfl

/-! ### `State.enterTimed` -/

@[simp] theorem State.enterTimed_table (n : StationNo) (x : StationState) (ms : Nat) : (s.enterTimed n x ms).table = s.table := rfl
@[simp] theorem State.enterTimed_feeder (n : StationNo) (x : StationState) (ms : Nat) : (s.enterTimed n x ms).feeder = s.feeder := rfl
@[simp] theorem State.enterTimed_atm (n : StationNo) (x : StationState) (ms : Nat) : (s.enterTimed n x ms).atm = s.atm := rfl
@[simp] theorem State.enterTimed_foam (n : StationNo) (x : StationState) (ms : Nat) : (s.enterTimed n x ms).foam = s.foam := rfl
@[simp] theorem State.enterTimed_totals (n : StationNo) (x : StationState) (ms : Nat) : (s.enterTimed n x ms).totals = s.totals := rfl
@[simp] theorem State.enterTimed_totalsStart (n : StationNo) (x : StationState) (ms : Nat) : (s.enterTimed n x ms).totalsStart = s.totalsStart := rfl
@[simp] theorem State.enterTimed_channels (n : StationNo) (x : StationState) (ms : Nat) : (s.enterTimed n x ms).channels = s.channels := rfl
@[simp] theorem State.enterTimed_scan (n : StationNo) (x : StationState) (ms : Nat) : (s.enterTimed n x ms).scan = s.scan := rfl
@[simp] theorem State.enterTimed_clock (n : StationNo) (x : StationState) (ms : Nat) : (s.enterTimed n x ms).clock = s.clock := rfl
@[simp] theorem State.enterTimed_period (n : StationNo) (x : StationState) (ms : Nat) : (s.enterTimed n x ms).period = s.period := rfl
@[simp] theorem State.enterTimed_flow (n : StationNo) (x : StationState) (ms : Nat) : (s.enterTimed n x ms).flow = s.flow := rfl
@[simp] theorem State.enterTimed_pwm (n : StationNo) (x : StationState) (ms : Nat) : (s.enterTimed n x ms).pwm = s.pwm := rfl
@[simp] theorem State.enterTimed_arb (n : StationNo) (x : StationState) (ms : Nat) : (s.enterTimed n x ms).arb = s.arb := rfl
@[simp] theorem State.enterTimed_line (n : StationNo) (x : StationState) (ms : Nat) : (s.enterTimed n x ms).line = s.line := rfl
@[simp] theorem State.enterTimed_link (n : StationNo) (x : StationState) (ms : Nat) : (s.enterTimed n x ms).link = s.link := rfl
@[simp] theorem State.enterTimed_settings (n : StationNo) (x : StationState) (ms : Nat) : (s.enterTimed n x ms).settings = s.settings := rfl
@[simp] theorem State.enterTimed_fitted4 (n : StationNo) (x : StationState) (ms : Nat) : (s.enterTimed n x ms).fitted4 = s.fitted4 := rfl
@[simp] theorem State.enterTimed_pins (n : StationNo) (x : StationState) (ms : Nat) : (s.enterTimed n x ms).pins = s.pins := rfl
@[simp] theorem State.enterTimed_free (n : StationNo) (x : StationState) (ms : Nat) : (s.enterTimed n x ms).free = s.free := rfl
@[simp] theorem State.enterTimed_pending (n : StationNo) (x : StationState) (ms : Nat) : (s.enterTimed n x ms).pending = s.pending := rfl

/-! ### `State.replied` -/

@[simp] theorem State.replied_table (k g : Byte) (a : Answer) : (s.replied k g a).table = s.table := rfl
@[simp] theorem State.replied_stations (k g : Byte) (a : Answer) : (s.replied k g a).stations = s.stations := rfl
@[simp] theorem State.replied_feeder (k g : Byte) (a : Answer) : (s.replied k g a).feeder = s.feeder := rfl
@[simp] theorem State.replied_atm (k g : Byte) (a : Answer) : (s.replied k g a).atm = s.atm := rfl
@[simp] theorem State.replied_foam (k g : Byte) (a : Answer) : (s.replied k g a).foam = s.foam := rfl
@[simp] theorem State.replied_totals (k g : Byte) (a : Answer) : (s.replied k g a).totals = s.totals := rfl
@[simp] theorem State.replied_totalsStart (k g : Byte) (a : Answer) : (s.replied k g a).totalsStart = s.totalsStart := rfl
@[simp] theorem State.replied_channels (k g : Byte) (a : Answer) : (s.replied k g a).channels = s.channels := rfl
@[simp] theorem State.replied_scan (k g : Byte) (a : Answer) : (s.replied k g a).scan = s.scan := rfl
@[simp] theorem State.replied_clock (k g : Byte) (a : Answer) : (s.replied k g a).clock = s.clock := rfl
@[simp] theorem State.replied_period (k g : Byte) (a : Answer) : (s.replied k g a).period = s.period := rfl
@[simp] theorem State.replied_flow (k g : Byte) (a : Answer) : (s.replied k g a).flow = s.flow := rfl
@[simp] theorem State.replied_pwm (k g : Byte) (a : Answer) : (s.replied k g a).pwm = s.pwm := rfl
@[simp] theorem State.replied_arb (k g : Byte) (a : Answer) : (s.replied k g a).arb = s.arb := rfl
@[simp] theorem State.replied_line (k g : Byte) (a : Answer) : (s.replied k g a).line = s.line := rfl
@[simp] theorem State.replied_settings (k g : Byte) (a : Answer) : (s.replied k g a).settings = s.settings := rfl
@[simp] theorem State.replied_fitted4 (k g : Byte) (a : Answer) : (s.replied k g a).fitted4 = s.fitted4 := rfl
@[simp] theorem State.replied_pins (k g : Byte) (a : Answer) : (s.replied k g a).pins = s.pins := rfl
@[simp] theorem State.replied_free (k g : Byte) (a : Answer) : (s.replied k g a).free = s.free := rfl
@[simp] theorem State.replied_pending (k g : Byte) (a : Answer) : (s.replied k g a).pending = s.pending := rfl

end Sys2Proof.Machine
end

