-- ==== Sys2Proof/Laws/Access.lean ====
section
/-! SUPPORT. What is read of a record, a station, a channel and an item after an update: the basic laws of the
named reads and writes. -/

namespace Sys2Proof.Machine

variable (s : State)

/-! ### Records -/

@[simp] theorem State.modRecord_record (i j : Slot) (f : Record → Record) :
    (s.modRecord i f).record j = if i = j then (s.record i).map f else s.record j := by
  unfold State.modRecord State.record Table.mod Table.put
  by_cases h : i = j
  · subst h; simp
  · have : i.val ≠ j.val := fun e => h (Fin.ext e)
    simp [h, this]

theorem Table.put_slots (t : Table) (i j : Slot) (r : Option Record) :
    (t.put i r).slots[j] = if i = j then r else t.slots[j] := by
  unfold Table.put
  by_cases h : i = j
  · subst h; simp
  · have : i.val ≠ j.val := fun e => h (Fin.ext e)
    simp [h, this]

@[simp] theorem State.modStation_record (n : StationNo) (f : Station → Station) (j : Slot) :
    (s.modStation n f).record j = s.record j := rfl
@[simp] theorem State.modChannel_record (c : ChannelNo) (f : Channel → Channel) (j : Slot) :
    (s.modChannel c f).record j = s.record j := rfl
@[simp] theorem State.raise_record (i : SourceNo) (x : Option Nat) (v : Option Value) (j : Slot) :
    (s.raise i x v).record j = s.record j := rfl
@[simp] theorem State.report_record (i : SourceNo) (b : Bool) (x : Option Nat) (v : Option Value) (j : Slot) :
    (s.report i b x v).record j = s.record j := rfl
@[simp] theorem State.enterTimed_record (n : StationNo) (x : StationState) (ms : Nat) (j : Slot) :
    (s.enterTimed n x ms).record j = s.record j := rfl
@[simp] theorem State.replied_record (k g : Byte) (a : Answer) (j : Slot) : (s.replied k g a).record j = s.record j := rfl

/-! ### Stations -/

@[simp] theorem State.modStation_station (n m : StationNo) (f : Station → Station) :
    (s.modStation n f).station m = if n = m then f (s.station n) else s.station m := by
  unfold State.modStation State.station
  by_cases h : n = m
  · subst h; simp
  · have : n.val ≠ m.val := fun e => h (Fin.ext e)
    simp [h, this]

@[simp] theorem State.modRecord_station (i : Slot) (f : Record → Record) (n : StationNo) :
    (s.modRecord i f).station n = s.station n := rfl
@[simp] theorem State.raise_station (i : SourceNo) (x : Option Nat) (v : Option Value) (n : StationNo) :
    (s.raise i x v).station n = s.station n := rfl
@[simp] theorem State.report_station (i : SourceNo) (b : Bool) (x : Option Nat) (v : Option Value) (n : StationNo) :
    (s.report i b x v).station n = s.station n := rfl
@[simp] theorem State.enterTimed_station (n m : StationNo) (x : StationState) (ms : Nat) :
    (s.enterTimed n x ms).station m =
      if n = m then { s.station n with state := x, deadline := some (after s.clock ms) } else s.station m :=
  s.modStation_station n m _

/-! ### Channels -/

@[simp] theorem State.modChannel_channel (c d : ChannelNo) (f : Channel → Channel) :
    (s.modChannel c f).channel d = if c = d then f (s.channel c) else s.channel d := by
  unfold State.modChannel State.channel
  by_cases h : c = d
  · subst h; simp
  · have : c.val ≠ d.val := fun e => h (Fin.ext e)
    simp [h, this]

@[simp] theorem State.modRecord_channel (i : Slot) (f : Record → Record) (c : ChannelNo) :
    (s.modRecord i f).channel c = s.channel c := rfl
@[simp] theorem State.modStation_channel (n : StationNo) (f : Station → Station) (c : ChannelNo) :
    (s.modStation n f).channel c = s.channel c := rfl
@[simp] theorem State.raise_channel (i : SourceNo) (x : Option Nat) (v : Option Value) (c : ChannelNo) :
    (s.raise i x v).channel c = s.channel c := rfl
@[simp] theorem State.report_channel (i : SourceNo) (b : Bool) (x : Option Nat) (v : Option Value) (c : ChannelNo) :
    (s.report i b x v).channel c = s.channel c := rfl

/-! ### Items -/

@[simp] theorem State.setItem_item (i j : Item) (v : Nat) :
    (s.setItem i v).item j = if i = j then v * (itemRow i).scale else s.item j := by
  unfold State.setItem State.item
  by_cases h : i = j
  · subst h; simp
  · have : i.val ≠ j.val := fun e => h (Fin.ext e)
    simp [h, this]

@[simp] theorem State.modRecord_item (i : Slot) (f : Record → Record) (j : Item) : (s.modRecord i f).item j = s.item j := rfl
@[simp] theorem State.modStation_item (n : StationNo) (f : Station → Station) (j : Item) :
    (s.modStation n f).item j = s.item j := rfl
@[simp] theorem State.raise_item (i : SourceNo) (x : Option Nat) (v : Option Value) (j : Item) :
    (s.raise i x v).item j = s.item j := rfl
@[simp] theorem State.report_item (i : SourceNo) (b : Bool) (x : Option Nat) (v : Option Value) (j : Item) :
    (s.report i b x v).item j = s.item j := rfl

/-! ### The ident of a request -/

/-- The slot an Ident is found in holds a record with that Ident (R2). -/
theorem State.findIdent_some {s : State} {id : Word} {i : Slot} (h : s.findIdent id = some i) :
    ∃ r, s.record i = some r ∧ r.ident = id := by
  have h' := List.find?_some h
  cases hr : s.record i with
  | none => simp [hr] at h'
  | some r => exact ⟨r, rfl, by simpa [hr] using h'⟩

/-- An Ident that one record alone carries is found in that record's slot (R2). -/
theorem State.findIdent_of_unique {s : State} {id : Word} {i : Slot} {r : Record} (hr : s.record i = some r)
    (hid : r.ident = id) (hu : ∀ j, ∀ q ∈ s.record j, q.ident = id → j = i) : s.findIdent id = some i := by
  cases h : s.findIdent id with
  | none =>
    have h' := List.find?_eq_none.mp h i (by simp [allSlots])
    simp [hr, hid] at h'
  | some j =>
    obtain ⟨q, hq, hqi⟩ := State.findIdent_some h
    rw [hu j q (by simp [hq]) hqi]

/-- An Ident that no present record carries is not found (R2). -/
theorem State.findIdent_none {s : State} {id : Word} (h : ∀ j, ∀ q ∈ s.record j, q.ident ≠ id) : s.findIdent id = none := by
  cases h' : s.findIdent id with
  | none => rfl
  | some j =>
    obtain ⟨q, hq, hqi⟩ := State.findIdent_some h'
    exact absurd hqi (h j q (by simp [hq]))

end Sys2Proof.Machine
end

