-- ==== Sys2Proof/Laws/Frame.lean ====
section
/-! SUPPORT. What each shared operation can change: one frame lemma for each, so that no later proof unfolds an
operation to learn what it leaves as it is. A frame says that the second state is the first but for the fields
it names. -/

namespace Sys2Proof.Machine

/-! ### The gate cycle: the table and the Feeder -/

/-- All but the table and the Feeder is unchanged. -/
def GateFrame (s t : State) : Prop := t = { s with table := t.table, feeder := t.feeder }

theorem GateFrame.refl (s : State) : GateFrame s s := rfl

theorem GateFrame.trans {s t u : State} (h : GateFrame s t) (k : GateFrame t u) : GateFrame s u := by
  unfold GateFrame at *; rw [k, h]

theorem State.takeHead_frame (s : State) : GateFrame s s.takeHead := by
  unfold State.takeHead; split <;> rfl

theorem State.returnToHead_frame (s : State) : GateFrame s s.returnToHead := by
  unfold State.returnToHead; split <;> rfl

theorem State.feedRecord_frame (s : State) (t : Time) (b : Bool) : GateFrame s (s.feedRecord t b) := by
  unfold State.feedRecord; split <;> rfl

theorem State.enterOpening_frame (s : State) : GateFrame s s.enterOpening := by
  refine s.takeHead_frame.trans ?_
  unfold State.enterOpening
  simp only
  split <;> rfl

theorem State.judgePermit_frame (s : State) : GateFrame s s.judgePermit := by
  unfold State.judgePermit
  split
  · split
    · rfl
    · split
      · exact s.enterOpening_frame
      · rfl
  · rfl

theorem State.judgeIdle_frame (s : State) : GateFrame s s.judgeIdle := by
  unfold State.judgeIdle
  split
  · exact (show GateFrame s (s.feederUntimed .waitPermit) from rfl).trans (State.judgePermit_frame _)
  · rfl

theorem State.feederToIdle_frame (s : State) : GateFrame s s.feederToIdle :=
  (show GateFrame s (s.feederUntimed .idle) from rfl).trans (State.judgeIdle_frame _)

theorem State.enterClosing_frame (s : State) : GateFrame s s.enterClosing := by
  have h : GateFrame s (s.feederTimed .closing iTClose) := rfl
  unfold State.enterClosing
  simp only
  split
  · exact h.trans (State.feederToIdle_frame _)
  · exact h

theorem State.feedEvent_frame (s : State) (t : Time) (b : Bool) : GateFrame s (s.feedEvent t b) :=
  (s.feedRecord_frame t b).trans rfl

theorem State.freeJam_frame (s : State) : GateFrame s s.freeJam :=
  (show GateFrame s { s with feeder := { s.feeder with jam := none } } from rfl).trans (State.feederToIdle_frame _)

/-! ### Jams and halts: the arbiter too -/

/-- All but the table, the Feeder and the arbiter is unchanged. -/
def HaltFrame (s t : State) : Prop := t = { s with table := t.table, feeder := t.feeder, arb := t.arb }

theorem HaltFrame.trans {s t u : State} (h : HaltFrame s t) (k : HaltFrame t u) : HaltFrame s u := by
  unfold HaltFrame at *; rw [k, h]

theorem GateFrame.halt {s t : State} (h : GateFrame s t) : HaltFrame s t := by
  unfold GateFrame at h; unfold HaltFrame; rw [h]

theorem State.enterJam_frame (s : State) (c : JamCause) : HaltFrame s (s.enterJam c) := rfl

theorem State.feederHalt_frame (s : State) (c : JamCause) : HaltFrame s (s.feederHalt c) := by
  unfold State.feederHalt
  split
  · exact (s.returnToHead_frame.trans (State.feederToIdle_frame _)).halt
  · exact s.enterJam_frame c
  · rfl

theorem State.judgeVessel_frame (s : State) : HaltFrame s s.judgeVessel := rfl

theorem State.feederPass_frame (s : State) : HaltFrame s s.feederPass :=
  s.judgeVessel_frame.trans (State.judgePermit_frame _).halt

/-! ### Closing: the table, the totals and the arbiter -/

/-- All but the table, the totals and the arbiter is unchanged. -/
def CloseFrame (s t : State) : Prop := t = { s with table := t.table, totals := t.totals, arb := t.arb }

theorem CloseFrame.trans {s t u : State} (h : CloseFrame s t) (k : CloseFrame t u) : CloseFrame s u := by
  unfold CloseFrame at *; rw [k, h]

theorem State.addTotal_frame (s : State) (i : TotalNo) (n : Nat) : CloseFrame s (s.addTotal i n) := by
  unfold State.addTotal
  simp only
  split <;> rfl

theorem State.addClose_frame (s : State) (r : Record) : CloseFrame s (s.addClose r) :=
  (((s.addTotal_frame _ _).trans (State.addTotal_frame _ _ _)).trans (State.addTotal_frame _ _ _)).trans
    (State.addTotal_frame _ _ _)

/-- Adding to a total leaves the table as it is. -/
@[simp] theorem State.addTotal_table (s : State) (i : TotalNo) (n : Nat) : (s.addTotal i n).table = s.table := by
  unfold State.addTotal
  simp only
  split <;> rfl

@[simp] theorem State.addClose_table (s : State) (r : Record) : (s.addClose r).table = s.table := by
  unfold State.addClose
  simp only [State.addTotal_table]

theorem State.setTable_frame (s : State) (t : Table) : CloseFrame s { s with table := t } := rfl

theorem State.raise_closeFrame (s : State) (i : SourceNo) (x : Option Nat) (v : Option Value) :
    CloseFrame s (s.raise i x v) := rfl

theorem State.closeSlot_frame (s : State) (i : Slot) : CloseFrame s (s.closeSlot i) := by
  unfold State.closeSlot
  split
  · rfl
  · exact ((s.setTable_frame _).trans (State.addClose_frame _ _)).trans (State.raise_closeFrame _ _ _ _)

theorem State.closeWindow_frame (s : State) (i : Slot) : CloseFrame s (s.closeWindow i) :=
  CloseFrame.trans (t := s.modRecord i _) rfl (State.closeSlot_frame _ i)

theorem State.modRecords_frame (is : List Slot) (f : Record → Record) (s : State) : GateFrame s (s.modRecords is f) := by
  induction is generalizing s with
  | nil => rfl
  | cons i is ih => exact GateFrame.trans (t := s.modRecord i f) rfl (ih _)

/-! ### Stations: the table, the stations and the arbiter -/

/-- All but the table, the stations and the arbiter is unchanged. -/
def StationFrame (s t : State) : Prop := t = { s with table := t.table, stations := t.stations, arb := t.arb }

theorem StationFrame.refl (s : State) : StationFrame s s := rfl

theorem StationFrame.trans {s t u : State} (h : StationFrame s t) (k : StationFrame t u) : StationFrame s u := by
  unfold StationFrame at *; rw [k, h]

theorem State.modRecord_frame (s : State) (i : Slot) (f : Record → Record) : StationFrame s (s.modRecord i f) := rfl

theorem State.modStation_frame (s : State) (n : StationNo) (f : Station → Station) :
    StationFrame s (s.modStation n f) := rfl

theorem State.enterTimed_frame (s : State) (n : StationNo) (x : StationState) (ms : Nat) :
    StationFrame s (s.enterTimed n x ms) := rfl

theorem State.enterAwait_frame (s : State) (n : StationNo) : StationFrame s (s.enterAwait n) := rfl

theorem State.enterFaulted_frame (s : State) (n : StationNo) (c : FaultCause) (x : Option Slot) :
    StationFrame s (s.enterFaulted n c x) := rfl

theorem State.returnBound_frame (s : State) (n : StationNo) : StationFrame s (s.returnBound n) := by
  unfold State.returnBound; split <;> rfl

theorem State.endAttempt_frame (s : State) (n : StationNo) (i : Slot) : StationFrame s (s.endAttempt n i) := by
  unfold State.endAttempt
  repeat' split
  all_goals rfl

theorem State.weigh_frame (s : State) (n : StationNo) (wf ofl : Int) (b : Bool) : StationFrame s (s.weigh n wf ofl b) := by
  unfold State.weigh
  split
  · rfl
  · split
    · rfl
    · exact ((s.modRecord_frame _ _).trans (State.modStation_frame _ n _)).trans (State.endAttempt_frame _ n _)

theorem State.enterPiercing_frame (s : State) (n : StationNo) : StationFrame s (s.enterPiercing n) := by
  unfold State.enterPiercing
  simp only
  split <;> rfl

theorem State.judgeRings_frame (s : State) (n : StationNo) : StationFrame s (s.judgeRings n) := by
  unfold State.judgeRings
  split
  · split
    · exact s.enterPiercing_frame n
    · exact s.weigh_frame n _ _ _
    · exact s.weigh_frame n _ _ _
    · rfl
  · rfl

theorem State.enterTaring_frame (s : State) (n : StationNo) : StationFrame s (s.enterTaring n) :=
  StationFrame.trans (t := s.enterTimed n .taring _) rfl (State.judgeRings_frame _ n)

theorem State.enterClamping_frame (s : State) (n : StationNo) : StationFrame s (s.enterClamping n) := by
  have h : StationFrame s (s.enterTimed n .clamping (s.item iTClamp)) := rfl
  unfold State.enterClamping
  simp only
  split
  · exact h.trans (State.enterTaring_frame _ n)
  · exact h

theorem State.enterWeighing_frame (s : State) (n : StationNo) : StationFrame s (s.enterWeighing n) :=
  StationFrame.trans (t := s.enterTimed n .weighing _) rfl (State.judgeRings_frame _ n)

theorem State.enterAbortWeighing_frame (s : State) (n : StationNo) (c : EndCause) :
    StationFrame s (s.enterAbortWeighing n c) :=
  ((s.modStation_frame n _).trans (State.enterTimed_frame _ n _ _)).trans (State.judgeRings_frame _ n)

theorem State.enterDraining_frame (s : State) (n : StationNo) : StationFrame s (s.enterDraining n) := by
  unfold State.enterDraining
  split
  · exact s.enterWeighing_frame n
  · rfl

theorem State.judgeFill_frame (s : State) (n : StationNo) : StationFrame s (s.judgeFill n) := by
  unfold State.judgeFill
  split
  · exact s.enterAbortWeighing_frame n _
  · rfl

theorem State.enterEvacuating_frame (s : State) (n : StationNo) (b : Bool) : StationFrame s (s.enterEvacuating n b) :=
  ((s.modStation_frame n _).trans (State.enterTimed_frame _ n _ _)).trans (State.judgeFill_frame _ n)

theorem State.judgeDwell_frame (s : State) (n : StationNo) : StationFrame s (s.judgeDwell n) := by
  unfold State.judgeDwell
  simp only
  repeat' split
  all_goals rfl

theorem State.judgeRise_frame (s : State) (n : StationNo) : StationFrame s (s.judgeRise n) := by
  unfold State.judgeRise
  simp only
  split
  · split
    · split
      · exact StationFrame.trans (t := s.modStation n _) rfl (State.enterEvacuating_frame _ n false)
      · split
        · exact s.enterDraining_frame n
        · exact StationFrame.trans (t := s.modRecord _ _) rfl (State.enterDraining_frame _ n)
    · rfl
  · rfl

theorem State.suctionConverted_frame (s : State) (n : StationNo) : StationFrame s (s.suctionConverted n) := by
  unfold State.suctionConverted
  split
  · exact s.judgeDwell_frame n
  · exact s.judgeRise_frame n
  · rfl

theorem State.scaleConverted_frame (s : State) (n : StationNo) : StationFrame s (s.scaleConverted n) := by
  unfold State.scaleConverted
  split
  · exact s.judgeFill_frame n
  · exact s.judgeRings_frame n

theorem State.judgeProbe_frame (s : State) (n : StationNo) (i : Slot) (c : Option Gas) (o : ProbeOutcome) :
    StationFrame s (s.judgeProbe n i c o) := by
  have h : StationFrame s (s.modStation n fun x => { x with attemptClass := c }) := rfl
  unfold State.judgeProbe
  simp only
  split
  · exact h.trans (State.enterAbortWeighing_frame _ n _)
  · exact (h.trans (u := State.modRecord _ i _) rfl).trans (State.enterAbortWeighing_frame _ n _)
  · rfl
  · exact h

theorem State.probeRecord_frame (s : State) (i : Slot) (r : Record) (g : Option Gas) :
    StationFrame s (s.probeRecord i r g) := by
  unfold State.probeRecord
  split
  · rfl
  · simp only
    split <;> rfl

theorem State.takeProbe_frame (s : State) (n : StationNo) (p : BitVec 2) : StationFrame s (s.takeProbe n p) := by
  have h : StationFrame s (s.modStation n fun x => { x with probeTaken := true, probeDeadline := none }) := rfl
  unfold State.takeProbe
  simp only
  split
  · exact h
  · split
    · exact h
    · exact (h.trans (State.probeRecord_frame _ _ _ _)).trans (State.judgeProbe_frame _ n _ _ _)

theorem State.evacTimedOut_frame (s : State) (n : StationNo) : StationFrame s (s.evacTimedOut n) := by
  unfold State.evacTimedOut
  repeat' split
  all_goals rfl

theorem State.abort_frame (s : State) (n : StationNo) (c : EndCause) : StationFrame s (s.abort n c) := by
  unfold State.abort
  split
  · exact s.enterAbortWeighing_frame n c
  · exact (s.returnBound_frame n).trans rfl

theorem State.stationStop_frame (s : State) (n : StationNo) : StationFrame s (s.stationStop n) := by
  unfold State.stationStop
  split
  · exact s.abort_frame n _
  · rfl

theorem State.faultUnpierced_frame (s : State) (n : StationNo) (c : FaultCause) :
    StationFrame s (s.faultUnpierced n c) :=
  (s.returnBound_frame n).trans rfl

theorem State.settleExpired_frame (s : State) (n : StationNo) : StationFrame s (s.settleExpired n) := by
  unfold State.settleExpired
  split
  · exact s.weigh_frame n _ _ _
  · rfl

theorem State.beginAttempt_frame (s : State) (n : StationNo) (i : Slot) : StationFrame s (s.beginAttempt n i) :=
  ((s.modRecord_frame i _).trans (State.modStation_frame _ n _)).trans (State.enterClamping_frame _ n)

/-! ### A fold of steps keeps a frame -/

/-- A relation that holds across each step of a fold holds across the fold. -/
theorem foldl_frame {α : Type} {R : State → State → Prop} (hr : ∀ s, R s s) (ht : ∀ {s t u}, R s t → R t u → R s u)
    {f : State → α → State} (hf : ∀ s a, R s (f s a)) (l : List α) (s : State) : R s (l.foldl f s) := by
  induction l generalizing s with
  | nil => exact hr s
  | cons a l ih => exact ht (hf s a) (ih _)

end Sys2Proof.Machine
end

