-- ==== Sys2Proof/Laws/Requests.lean ====
section
/-! SUPPORT. What the step of a request, a broadcast and a posting can do, said once. -/

namespace Sys2Proof.Machine

/-! ### Requests (R184, R185) -/

theorem count16_eq (n : Nat) : count16 n = min 65535 (n + 1) := by
  unfold count16 satAdd Config.max16
  split <;> omega

/-- A request whose owner answers `a` and leaves `u`, whatever the link holds, leaves `u` with the reply due. -/
theorem State.request_replied {s u : State} {k g : Byte} {owner : State → State × Answer} {a : Answer}
    (h : s.link.rx ≠ .replying) (ho : owner { s with link := s.link.accept } = ({ u with link := s.link.accept }, a))
    (hu : u.link = s.link) : s.request k g owner = u.replied k g a := by
  have hr : s.replying = false := by simp [State.replying, h]
  unfold State.request State.takeRequest
  rw [hr, ho]
  simp only [State.replied, Answer.body, Link.accept, Link.leave, hu, count16_eq, Bool.false_eq_true, if_false]

/-- While the part owes or sends a reply a request is lost (R185). -/
theorem State.request_lost {s : State} {k g : Byte} {owner : State → State × Answer} (h : s.link.rx = .replying) :
    s.request k g owner = s := by
  simp [State.request, State.replying, h]

/-! ### Posting (R159) -/

namespace Arbiter

/-- All but the sources and the queue is unchanged. -/
def PostFrame (a b : Arbiter) : Prop := b = { a with sources := b.sources, queue := b.queue }

theorem PostFrame.trans {a b c : Arbiter} (h : PostFrame a b) (k : PostFrame b c) : PostFrame a c := by
  unfold PostFrame at *; rw [k, h]

theorem postOne_frame (a : Arbiter) (i : SourceNo) : PostFrame a (a.postOne i) := by
  unfold postOne; split <;> rfl

theorem postFuel_frame (k : Nat) (a : Arbiter) : PostFrame a (postFuel k a) := by
  induction k generalizing a with
  | zero => rfl
  | succ k ih =>
    unfold postFuel
    split
    · rfl
    · exact (a.postOne_frame _).trans (ih _)

theorem post_frame (a : Arbiter) : PostFrame a a.post := postFuel_frame 21 a

/-- Posting adds notices at the tail and takes none away. -/
theorem postOne_queue (a : Arbiter) (i : SourceNo) : ∃ l, (a.postOne i).queue = a.queue ++ l := by
  unfold postOne
  split
  · exact ⟨[noticeOf i _ _], rfl⟩
  · exact ⟨[], by simp⟩

theorem postFuel_queue (k : Nat) (a : Arbiter) : ∃ l, (postFuel k a).queue = a.queue ++ l := by
  induction k generalizing a with
  | zero => exact ⟨[], by simp [postFuel]⟩
  | succ k ih =>
    unfold postFuel
    split
    · exact ⟨[], by simp⟩
    · obtain ⟨l, hl⟩ := a.postOne_queue ‹_›
      obtain ⟨m, hm⟩ := ih (a.postOne ‹_›)
      exact ⟨l ++ m, by rw [hm, hl, List.append_assoc]⟩

theorem post_queue (a : Arbiter) : ∃ l, a.post.queue = a.queue ++ l := postFuel_queue 21 a

/-- With no eligible source nothing is posted. -/
theorem post_of_none {a : Arbiter} (h : a.best = none) : a.post = a := by
  simp [post, postFuel, h]

end Arbiter

/-! ### A report without a change -/

/-- A condition that has not changed is not reported (log 26). -/
theorem State.report_same (s : State) (i : SourceNo) (b : Bool) (x : Option Nat) (v : Option Value)
    (h : s.arb.sources[i].cond = b) : s.report i b x v = s := by
  subst h
  unfold State.report Arbiter.report
  cases hc : s.arb.sources[i].cond <;> simp

end Sys2Proof.Machine
end

