-- ==== Sys2Proof/Laws/Passes.lean ====
section
/-! SUPPORT. What the shared operations of a pass, a tick and a ratio do, said once: the converted records and the
input levels of a pass, the order of its readers, the judgements of a tick and of a new period. -/

namespace Sys2Proof.Machine

/-! ### Ratios (R63, R104) -/

theorem permille_le (m b : Nat) : permille m b ≤ 1999 := Nat.min_le_left _ _

theorem ratioExceeds_iff (m b : Nat) : ratioExceeds m b = true ↔ 1999 * b < m * 1000 := by simp [ratioExceeds]

/-- A ratio that is flagged is reported at its limit. -/
theorem permille_of_exceeds {m b : Nat} (hb : 0 < b) (h : ratioExceeds m b = true) : permille m b = 1999 := by
  have : 1999 ≤ m * 1000 / b := (Nat.le_div_iff_mul_le hb).mpr ((ratioExceeds_iff m b).mp h).le
  simp [permille, this]

/-! ### A pass (R124, R125) -/

/-- The records of group B take the readings of a pass. -/
theorem State.takePass_groupB (s : State) (raw : Vector Raw 8) (k : Fin 8) :
    (s.takePass raw).channel ⟨8 + k.val, by omega⟩ = (s.channel ⟨8 + k.val, by omega⟩).convert raw[k] := by
  simp only [State.takePass, List.finRange_succ, List.finRange_zero, List.map_nil, List.map_cons, List.foldl_cons,
    List.foldl_nil, State.modChannel_channel, Fin.mk.injEq]
  fin_cases k <;> simp

/-- The records of group A are as before a pass. -/
theorem State.takePass_groupA (s : State) (raw : Vector Raw 8) (k : Fin 8) :
    (s.takePass raw).channel ⟨k.val, by omega⟩ = s.channel ⟨k.val, by omega⟩ := by
  simp only [State.takePass, List.finRange_succ, List.finRange_zero, List.map_nil, List.map_cons, List.foldl_cons,
    List.foldl_nil, State.modChannel_channel, Fin.mk.injEq]
  fin_cases k <;> simp

/-- The readers take a completion once each, the ones named first in their order (log 3). -/
theorem readerOrder_spec (first : List PassReader) :
    (readerOrder first).Nodup ∧ (∀ r : PassReader, r ∈ readerOrder first) ∧ first.dedup <+: readerOrder first := by
  refine ⟨?_, ?_, List.prefix_append _ _⟩
  · unfold readerOrder
    refine List.Nodup.append (List.nodup_dedup _) (List.Nodup.filter _ (by decide)) ?_
    intro r hr hf
    simp only [List.mem_filter, Bool.not_eq_true', List.contains_eq_mem, decide_eq_false_iff_not] at hf
    exact hf.2 (List.mem_dedup.mp hr)
  · intro r
    by_cases h : r ∈ first
    · exact List.mem_append_left _ (List.mem_dedup.mpr h)
    · refine List.mem_append_right _ (List.mem_filter.mpr ⟨by cases r <;> simp, by simpa using h⟩)

/-! ### Ticks (R94, R106) -/

@[simp] theorem State.tickStep_none {s : State} (h : s.foam.tickDue = none) : s.tickStep = s := by simp [State.tickStep, h]

theorem State.tickStep_some {s : State} {x : TickReadings} (h : s.foam.tickDue = some x) : s.tickStep = s.tick x := by
  simp [State.tickStep, h]

theorem State.attributionPass_ordinary (s : State) (apart : Bool) :
    s.attributionPass false apart = s.judgeBreakthrough s.readingsOfPass := rfl

theorem State.attributionPass_apart (s : State) : s.attributionPass true true = s := rfl

theorem State.attributionPass_tick (s : State) : s.attributionPass true false = s.tickStep := rfl

/-! ### A new period (R140) -/

/-- After an expiry taken first at this reading a new Pa leaves the deadline. -/
theorem State.newPeriod_after_expiry {s : State} (h : s.period.lastExpiry = some s.clock) : s.newPeriod = s := by
  simp [State.newPeriod, h]

/-- A new Pa not yet passed is counted from the last expiry. -/
theorem State.newPeriod_pending {s : State} (h : s.period.lastExpiry ≠ some s.clock)
    (hp : elapsed s.period.base s.clock < s.item iPa) :
    s.newPeriod = { s with period := { s.period with nextDeadline := after s.period.base (s.item iPa) } } := by
  simp [State.newPeriod, h, Nat.not_le.mpr hp]

/-- A new Pa already passed lets the period expire at once. -/
theorem State.newPeriod_passed {s : State} (h : s.period.lastExpiry ≠ some s.clock)
    (hp : s.item iPa ≤ elapsed s.period.base s.clock) : s.newPeriod = s.periodExpire := by
  simp [State.newPeriod, h, hp]

end Sys2Proof.Machine
end

