-- ==== Sys2Proof/Tests/Slice0.lean ====
section
/-! SUPPORT. Tests: ill-formed commands refused, worked examples of the manual, and for every statement with
hypotheses a state and operands that meet them, clause by clause. -/

namespace Sys2Proof.Tests

open Sys2Proof Sys2Proof.Machine

/-! ### Helpers -/

/-- Whether a command completes in a state with a property. -/
def ends (c : Instr) (s : State) (p : State → Bool) : Bool :=
  match exec c s with
  | .next t => p t
  | .fault _ => false
  | .refused _ => false

/-- The body of the reply that stands due. -/
def answered (s : State) : List Byte := (s.link.reply.map Reply.body).getD []

/-- A line in RUN at the reading 100, the shredder running. -/
def running : State :=
  { State.reset with
    clock := 100
    line := { state := .run, emergencyMark := false }
    pins := { State.reset.pins with shredderRunning := true } }

/-- The line in another state. -/
def inLine (l : LineState) (s : State) : State := { s with line := { s.line with state := l } }

/-- The port in another receiver state. -/
def rx (x : RxState) (s : State) : State := { s with link := { s.link with rx := x } }

/-- A cabinet of slot 3 in a phase. -/
def cabinet (ph : Phase) : Record :=
  { slot := 3, ident := 7, seq := 0, declared := some .chloro, charge := 1000, foamClass := 2, foamAgent := .chloro
    expected := 100, phase := ph, attempts := 0, bound := none, used := [], measured := none, mr := 0, mo := 0, rho := none
    verdict := none, releaseOrder := none, feedTime := none, ticks := none, foam := 0, gamma := none, foamVerdict := none
    closeTime := none, flags := {} }

/-- A record put in its slot. -/
def put (r : Record) (s : State) : State := { s with table := { s.table with slots := s.table.slots.set r.slot (some r) } }

/-- The record of slot 3 is the only one that carries its Ident. -/
abbrev Only (s : State) (r : Record) : Prop :=
  s.record 3 = some r ∧ r.ident = 7 ∧ ∀ j, ∀ q ∈ s.record j, q.ident = 7 → j = 3

/-- Station 1 holding the cabinet in a state, its timer just expiring. -/
def holding (st : StationState) (f : Station → Station) : State :=
  put { cabinet .extracting with bound := some 0 } { running with
    stations := running.stations.set 0 (f { stationReset with state := st, bound := some 3, deadline := some 100 }) }

/-- A pierced station with a tare. -/
def weighed (x : Station) : Station := { x with pierced := true, tareReceiver := some 1000, tareOil := some 50 }

/-- A channel with a value, a full ring of it, and a status. -/
def reads (c : ChannelNo) (v : Int) (st : ChannelStatus) (s : State) : State :=
  { s with channels := s.channels.set c { s.channels[c] with status := st, value := v, ring := List.replicate 8 v } }

/-- Clamp 1 closed. -/
def clamped (s : State) : State := { s with pins := { s.pins with clamp := s.pins.clamp.set 0 true } }

/-- The gate at its closed switch. -/
def shut (s : State) : State := { s with pins := { s.pins with gateClosed := true } }

/-- The Feeder in a state, its timer just expiring. -/
def feeder (st : FeederState) (s : State) : State := { s with feeder := { s.feeder with state := st, deadline := some 100 } }

/-- The cabinet between the gates. -/
def fed (st : FeederState) : State :=
  feeder st (put (cabinet .feeding) { running with table := { running.table with feeding := some 3 } })

/-- The cabinet at the head of the shred queue of a waiting Feeder. -/
def waiting : State :=
  { put (cabinet .shredWait) { running with table := { running.table with shredQueue := [3] } } with
    feeder := { feederReset with state := .waitPermit } }

/-- The cabinet in an open window with some ticks left, and a tick due on a vessel reading. -/
def ticking (v : Option Nat) (k e : Nat) : State :=
  put { cabinet .shredding with ticks := some k, expected := e } { running with
    table := { running.table with openSet := [3] }
    foam := { running.foam with baseline := v.map fun _ => 1000, tickDue := some ⟨v, .noData, 0⟩ } }

/-- The same on a sensor gap. -/
def window (k e : Nat) : State := ticking none k e

/-- The atmosphere in a state with a hold that began at a reading. -/
def air (st : AtmState) (hold : Option Time) (s : State) : State :=
  { s with atm := { s.atm with state := st, holdStart := hold, holdLength := hold.map fun _ => 60 } }

/-- The host hold set. -/
def demanded (s : State) : State := { s with atm := { s.atm with hostHold := true } }

/-- Oxygen and LFL readings with a status. -/
def gases (o2 lfl : Int) (st : ChannelStatus) (s : State) : State := reads 9 lfl st (reads 8 o2 st s)

/-- A notice queue of n notices of a level. -/
def queued (n : Nat) (l : Fin 4) (a : Arbiter) : Arbiter := { a with queue := List.replicate n ⟨20, l, 0, none, none, 0⟩ }

/-- A source changed. -/
def source (i : SourceNo) (f : Source → Source) (a : Arbiter) : Arbiter := { a with sources := a.sources.set i (f a.sources[i]) }

/-- Nothing that can be posted is left. -/
abbrev Posted (a : Arbiter) : Prop := ∀ j, a.eligibleLevel j = none

/-! ### Well-formed commands, and the table's words -/

theorem test_badKind_of_the_catalogue_refused : Instr.wellFormed (.badKind 0 1) = false := by decide
theorem test_badKind_top_of_the_catalogue_refused : Instr.wellFormed (.badKind 0 34) = false := by decide
theorem test_badKind_outside_accepted : Instr.wellFormed (.badKind 0 35) = true := by decide
theorem test_ignored_line_stop_refused : Instr.wellFormed (.broadcastIgnored 32 0) = false := by decide
theorem test_ignored_line_hold_refused : Instr.wellFormed (.broadcastIgnored 31 0) = false := by decide
theorem test_ignored_overlong_refused : Instr.wellFormed (.broadcastIgnored 3 241) = false := by decide
theorem test_readers_named_twice_refused :
    Instr.wellFormed (.groupBPassCompletion (Vector.replicate 8 0) [.feeder, .feeder] false) = false := by decide
theorem test_no_word_spells_a_command : decodeTableWord 8 0 = none := by decide
theorem test_fetch_of_no_command : (State.reset.withFetchWord 8 5).pending = [] := by decide

/-! ### The manual's worked examples -/

/-- R181: the check over one character 0, worked by hand from the generator. -/
theorem test_crc_of_one_character : crc [0] = 0xE1F0 := by decide

/-- 3.6: the settled tare of station 3. -/
theorem test_settled_tare : Channel.settledValue { channelReset 4 with
    ring := [182340, 182346, 182343, 182345, 182341, 182347, 182344, 182342] } = 182344 := by decide
/-- 3.6: the verdict of one attempt. -/
theorem test_verdict_complete : massVerdict 1047 1100 20 900 = .complete := by decide
/-- R64: a ratio one below the limit. -/
theorem test_verdict_short : massVerdict 899 1000 20 900 = .short := by decide
/-- R64: an EMPTY record without a rated charge is not UNRATED. -/
theorem test_verdict_empty_first : massVerdict 19 0 20 900 = .empty := by decide

/-- 7.9: the scaling of A2, A3, B0 and B5. -/
theorem test_scaling : (channelReset 2).scaled 23593 = 180003 ∧ (channelReset 3).scaled 2621 = 400
    ∧ (channelReset 8).scaled 10486 = 400 ∧ (channelReset 13).scaled 1 = 1 := by decide
/-- 7.9: a raw 0 is FAULT LOW with value and ring held; the next good reading restarts the ring. -/
theorem test_fault_and_restart :
    let c := (Channel.convert { channelReset 13 with status := .ok, value := 3112, ring := [3110, 3114, 3112] } 0)
    c.status = .faultLow ∧ c.value = 3112 ∧ c.ring.length = 3 ∧ (c.convert 4080).ring = [3113] := by decide
/-- 7.9: the ring at passes 12 and 13. -/
theorem test_settled_and_not :
    Channel.settled { channelReset 13 with status := .ok, ring := [3113, 3111, 3115, 3112, 3113, 3114, 3116, 3118] } = true
    ∧ Channel.settled { channelReset 13 with status := .ok, ring := [3111, 3115, 3112, 3113, 3114, 3116, 3118, 3124] } = false := by
  decide

/-- R90: the duty table with the defaults, and with Kp 250. -/
theorem test_duty : dutyOf .inert 650 300 100 400 = 850 ∧ dutyOf .inert 401 300 100 400 = 103
    ∧ dutyOf .inert 380 300 100 400 = 40 ∧ dutyOf .inert 200 300 100 400 = 0 ∧ dutyOf .inert 2090 300 100 400 = 1000
    ∧ dutyOf .inert 403 250 100 400 = 107 ∧ dutyOf .inert 397 250 100 400 = 93 := by decide

/-- 5.9: tick k is a loss, tick k+1 repays it. -/
theorem test_debt :
    let f := (Foam.fix { foamReset with baseline := some 410220 } (some 410208))
    f.foam.debt = 12 ∧ f.dEff = 0 ∧ (f.foam.fix (some 411223)).dEff = 1003 ∧ (f.foam.fix (some 411223)).foam.debt = 0 := by decide

/-- 5.9: the shares of tick k+1. -/
def threeWindows : State :=
  put { cabinet .shredding with slot := 0, ident := 1, expected := 2500 }
    (put { cabinet .shredding with slot := 1, ident := 2, expected := 3500 }
      (put { cabinet .shredding with slot := 2, ident := 3, expected := 6000 }
        { running with table := { running.table with openSet := [0, 1, 2] } }))
theorem test_shares : threeWindows.given 1003 0 = 210 ∧ threeWindows.given 1003 1 = 292 ∧ threeWindows.given 1003 2 = 501 := by
  decide

/-- 1.10: the three admissions. -/
theorem test_admit_first : ends (.admitAppliance 1 5001 3 900 3 3) running (fun t =>
    answered t == [0, 0, 0, 0, 0, 0, 0, 0, 0, 13, 172, 1]) = true := by decide
theorem test_admit_clamped : ends (.admitAppliance 1 5002 1 24000 2 1) running (fun t =>
    (answered t).take 3 == [0, 1, 0] && (t.record 0).any fun r => r.charge == 20000 && r.expected == 2500) = true := by decide

/-- 8.8: SET Pa 100 at 620 after an expiry at 500 with a postscaler of 2 and K of 3: the expiry falls at once. -/
theorem test_late_period : ends (.setConfig 1 31 100) { running with
    clock := 620, settings := running.settings.set iK 3
    period := { nextDeadline := 750, lastExpiry := some 500, postscaler := 2 } } (fun t =>
      t.period == ⟨720, some 620, 0⟩ && t.scan.pass == some ⟨620, true, []⟩) = true := by decide
/-- 8.8: SET Pa 400 at 620 moves the deadline to 900. -/
theorem test_longer_period : ends (.setConfig 1 31 400) { running with
    clock := 620, period := { nextDeadline := 750, lastExpiry := some 500, postscaler := 2 } } (fun t =>
      t.period == ⟨900, some 500, 2⟩ && t.scan.pass == none) = true := by decide
/-- R140: an expiry taken first at the same reading has fixed its deadline with the old Pa. -/
theorem test_period_after_expiry : ends (.setConfig 1 31 100) { running with
    clock := 500, period := { nextDeadline := 750, lastExpiry := some 500, postscaler := 2 } } (fun t =>
      t.period == ⟨750, some 500, 2⟩ && t.item iPa == 100) = true := by decide
/-- R63: Mr 2199 against C 1100 is rounded down to 1999 and flagged: 2,199,000 exceeds 1999 * 1100. -/
theorem test_ratio_saturated : ratioExceeds 2199 1100 = true ∧ permille 2199 1100 = 1999 ∧ ratioExceeds 1999 1000 = false := by decide

/-- 9.9: at 28 notices of level 0 a closing stays pending, a trip is posted in the 29th place. -/
theorem test_level_three_has_room :
    let a := ((queued 28 0 arbReset).raise 1010000 srcClosed (some 9) (some (.ident 5122))).raise 1030016 srcTrip none none
    a.queue.length = 29 ∧ (a.sources[srcClosed].pending.map Pending.repeats) = some 0 := by decide

/-- R192: a line request's answer carries the line state; the step takes the front of the queue. -/
theorem test_step_takes_the_front :
    (match step { running with pending := [.lineStop 9 false, .gap] } with
      | .next t => answered t == [0, 0, 4] && t.line.state == .stop && t.pending == [.gap]
      | _ => false) = true := by decide
set_option maxRecDepth 4000

/-! ### States that meet the statements' hypotheses: the machine and the serial line -/

theorem test_meets_IdleLetsTimePass :
    State.reset.pending = [] ∧ State.reset.foam.tickDue = none ∧ (window 1 100).pending = []
    ∧ (window 1 100).foam.tickDue = some ⟨none, .noData, 0⟩ := by
  decide
theorem test_a_millisecond_passes :
    (match step State.reset with | .next t => t.clock == 1 && t.pending == [] | _ => false) = true := by decide

/-- R124: 16 ms after its start a pass takes its eighth reading and completes. -/
theorem test_pass_completes :
    (match step { running with scan := { running.scan with pass := some ⟨85, false, List.replicate 7 5⟩ } } with
      | .next t => t.scan.pass == some ⟨85, false, [5, 5, 5, 5, 5, 5, 5, 0]⟩ && match t.pending with
        | [.groupBPassCompletion raw _ _] => raw == #v[5, 5, 5, 5, 5, 5, 5, 0]
        | _ => false
      | _ => false) = true := by decide

/-- A state of a line at work that has every law, and its step. -/
def working : State := { holding .piercing weighed with
  stations := (holding .piercing weighed).stations.set 0 (weighed { stationReset with
    state := .piercing, bound := some 3, deadline := some 100 })
  pending := [.tPierceExpiry 0] }
theorem test_meets_NoticeLawsKept : working.noticeLaw ∧ working.postedLaw := by decide
theorem test_meets_ChannelLawKept : working.channelLaw := by decide
theorem test_meets_LimitLawKept : working.limitLaw := by decide
theorem test_meets_AccountLawKept : working.accountLaw := by decide
theorem test_meets_GateAndStopLawsKept_gate : (air .inert none (fed .passing)).gateLaw ∧ (air .inert none (fed .passing)).feedGateOut = true := by
  decide
theorem test_meets_GateAndStopLawsKept_stop : (inLine .stop (holding .abortWeighing weighed)).stopLaw := by decide
theorem test_meets_ConsistencyKept_table : working.tableLaw := by decide
theorem test_meets_ConsistencyKept_stations : (∀ n : StationNo, (working.station n).law) ∧ working.bindingLaw := by decide
theorem test_meets_ConsistencyKept_feeder : working.feederLaw ∧ (∀ n : StationNo, working.fitted n = false → (working.station n).state = .idle)
    ∧ (working.atm.tripCauses.isSome ↔ working.atm.state = .tripped) := by decide
theorem test_meets_AirLawKept : working.airLaw := by decide
theorem test_meets_kept_step :
    (match step working with | .next t => (t.station 0).state == .evacuating | _ => false) = true := by decide

theorem test_meets_LostWhileReplying : (rx .replying running).link.rx = .replying ∧ (requestFrame (.readStatus 1)).isSome = true
    ∧ ends (.readStatus 1) (rx .replying running) (fun t => t == rx .replying running) = true := by decide

/-- A refusal: TRIP RESET outside TRIPPED. -/
theorem test_meets_RefusedRequestChangesNothing : (requestFrame (.tripReset 5)).isSome = true ∧ isBroadcast (.tripReset 5) = false
    ∧ running.link.rx ≠ .replying ∧ ends (.tripReset 5) running (fun t => answered t == [33, 0]) = true := by decide

/-- WITHDRAW of Ident 7, its frame with the check worked outside the model. -/
theorem test_meets_FrameCompletesItsRequest :
    Instr.wellFormed (.withdraw 9 7) = true ∧ requestFrame (.withdraw 9 7) = some (4, 9, [0, 0, 0, 7])
    ∧ running.link.rx = .hunt
    ∧ isBroadcast (.withdraw 9 7) = false ∧ (1 : Byte).toNat = running.link.address.toNat ∧ (1 : Byte).toNat ≠ 31
    ∧ frameChars 4 9 [0, 0, 0, 7] = [4, 4, 9, 0, 0, 0, 7, 0xEE, 0x32] := by decide
/-- A broadcast LINE STOP, from SKIPPING. -/
theorem test_meets_FrameCompletesItsRequest_broadcast :
    let s := { running with link := { running.link with rx := .skipping, broadcast := true } }
    Instr.wellFormed (.lineStop 9 true) = true ∧ requestFrame (.lineStop 9 true) = some (32, 9, [])
    ∧ s.link.rx = .skipping
    ∧ isBroadcast (.lineStop 9 true) = true ∧ (31 : Byte).toNat = 31 := by decide

theorem test_meets_CharactersOnTheLine_address : running.link.rx = .hunt ∧ (rx .receiving running).link.rx = .receiving
    ∧ (1 : Byte).toNat = running.link.address.toNat ∧ (2 : Byte).toNat ≠ running.link.address.toNat ∧ (2 : Byte).toNat ≠ 31 := by
  decide
theorem test_short_frame : ends (.addressCharacter 2) (rx .receiving running) (fun t =>
    t.link.rx == .skipping && t.link.gapErrors == 1 && t.link.notMine == 1) = true := by decide

/-- A frame under way: READ STATUS with Tag 5 and one body character too many, its last check character to come. -/
def lastChar : State := { running with
  link := { running.link with
    rx := .receiving, gap := true, buffer := [1, 27, 5, 0], checkHigh := some 0xBE, expected := some 1 } }
theorem test_meets_CharactersOnTheLine_stored :
    running.link.rx ≠ .receiving ∧ (rx .receiving running).link.rx = .receiving ∧ (rx .receiving running).link.expected = none
    ∧ (240 : Byte).toNat ≤ 240 ∧ 240 < (241 : Byte).toNat ∧ lastChar.link.rx = .receiving ∧ lastChar.link.expected = some 1
    ∧ crc lastChar.link.buffer ≠ (0xBE : Byte) ++ (0x14 : Byte) := by decide
theorem test_meets_CharactersOnTheLine_middle :
    (rx .receiving { running with link := { running.link with expected := some (0 + 3) } }).link.expected = some (0 + 3)
    ∧ (rx .receiving { running with link := { running.link with expected := some 2 } }).link.checkHigh = none := by decide
theorem test_length_of_240 : ends (.characterWithoutMark 240) (rx .receiving running) (fun t => t.link.expected == some 244) = true := by
  decide
theorem test_length_of_241 : ends (.characterWithoutMark 241) (rx .receiving running) (fun t =>
    t.link.rx == .skipping && t.link.checkErrors == 1) = true := by decide

theorem test_meets_ReceptionErrors : running.link.rx = .hunt ∧ (rx .receiving lastChar).link.gap = true ∧ running.link.rx ≠ .replying
    ∧ (34 < (35 : Byte).toNat) ∧ ¬(((31 : Byte) = 31 ∨ (31 : Byte) = 32) ∧ (1 : Byte) = 0) := by decide
theorem test_a_gap : ends .gap lastChar (fun t => t.link.rx == .hunt && t.link.gapErrors == 1) = true := by decide
/-- A good frame of Kind 27 with one body character, complete at its check BE13H: answered BAD_LENGTH. -/
theorem test_bad_length : lastChar.link.broadcast = false ∧ crc lastChar.link.buffer = (0xBE : Byte) ++ (0x13 : Byte)
    ∧ bodyLength 27 = some 0 ∧ ends (.characterWithoutMark 0x13) lastChar (fun t => answered t == [17, 0]) = true := by decide
/-- A LINE RUN with one body character: its BAD_LENGTH carries the line state RUN (log 32; the check worked outside the model). -/
theorem test_bad_length_of_a_line_request : crc [1, 30, 5, 0] = (0x55 : Byte) ++ (0xE3 : Byte)
    ∧ ends (.characterWithoutMark 0xE3) { lastChar with
      link := { lastChar.link with buffer := [1, 30, 5, 0], checkHigh := some 0x55 } } (fun t => answered t == [17, 0, 2]) = true := by
  decide
theorem test_bad_kind : ends (.badKind 3 35) running (fun t => answered t == [16, 0] && t.link.rx == .replying) = true := by decide

/-- A reply due, and one under transmission. -/
def owing : State := { running with link := { running.link with rx := .replying, reply := some ⟨27, 5, []⟩ } }
def sending : State := { owing with link := { owing.link with tx := [⟨true, 0⟩, ⟨false, 0⟩] } }
theorem test_meets_RepliesAndTheirCheck : owing.link.rx = .replying ∧ owing.link.reply = some ⟨27, 5, []⟩ ∧ owing.link.tx = []
    ∧ sending.link.rx = .replying ∧ sending.link.tx ≠ [] ∧ (1 : Byte) ≠ 2 := by decide
theorem test_reply_characters : ends .replyStart owing (fun t => t.link.tx
    == [⟨true, 0⟩, ⟨false, 0⟩, ⟨false, 27⟩, ⟨false, 5⟩, ⟨false, 0x43⟩, ⟨false, 0xB0⟩]) = true := by decide
/-- EMERGENCY STOP asserted. -/
def pressed (s : State) : State := { s with pins := { s.pins with emergencyStop := true } }
theorem test_meets_DeviceReset : running.pins.emergencyStop = false
    ∧ (pressed running).pins.emergencyStop = true := by decide
theorem test_reset_address_31 : ends (.deviceReset 31 true true) running (fun t =>
    t.link.address == 1 && t.link.fast && t.fitted4 && t.clock == 0 && t.line.state == .initial) = true := by decide
/-- R166: the asserted input is read in the step after the reset, before what waits. -/
theorem test_reset_pressed : ends (.deviceReset 1 false false) { pressed running with pending := [.lineRun 1] } (fun t =>
    t.line.state == .initial && !t.line.emergencyMark && t.pending == [.emergencyStopAsserted, .lineRun 1]
    && match step t with | .next u => u.line.state == .stop && u.pending == [.lineRun 1] | _ => false) = true := by decide

/-! ### Notices -/

/-- Two eligible sources, of levels 1 and 0. -/
def twoPending : Arbiter := source 17 (fun x => { x with pending := some ⟨1, none, none, 0⟩ })
  (source 12 (fun x => { x with pending := some ⟨2, some 4, none, 3⟩ }) arbReset)
theorem test_meets_PostingTakesTheHighest :
    twoPending.eligibleLevel 12 = some 1 ∧ twoPending.sources[(12 : SourceNo)].pending = some ⟨2, some 4, none, 3⟩
    ∧ (∀ j, ∀ m ∈ twoPending.eligibleLevel j, m < 1 ∨ m = 1 ∧ (12 : SourceNo) ≤ j) := by decide
theorem test_meets_PostingTakesTheHighest_idle : Posted arbReset := by decide
/-- 9.9: the held sources are posted by level: CLASS_MISMATCH before APPLIANCE_CLOSED. -/
theorem test_post_by_level : (twoPending.post.queue.map Notice.source) = [12, 17] := by decide

/-- A source with a pending occurrence of 255 repeats that the mask holds back. -/
def heldBack : Arbiter := source 17 (fun x => { x with pending := some ⟨1, none, none, 255⟩ }) { arbReset with mask := 1 }
theorem test_meets_RaisesAndReports_disabled :
    let a := source 17 (fun x => { x with level := none }) arbReset
    Posted a ∧ sourceIsLevel 17 = false ∧ a.sources[(17 : SourceNo)].level = none := by decide
theorem test_meets_RaisesAndReports_pending :
    Posted heldBack ∧ heldBack.sources[(17 : SourceNo)].level = some 0 ∧ heldBack.sources[(17 : SourceNo)].pending = some ⟨1, none, none, 255⟩ := by
  decide
theorem test_repeats_saturate : ((heldBack.raise 9 17 none none).sources[(17 : SourceNo)].pending.map Pending.repeats) = some 255 := by decide
/-- 27 notices below level 3 leave room for one more, 28 none; 31 leave room at level 3, 32 none. -/
theorem test_meets_RaisesAndReports_room :
    Posted (queued 27 0 arbReset) ∧ (queued 27 0 arbReset).queue.length < 32
    ∧ ((queued 27 0 arbReset).queue.filter fun n => decide (n.level.val ≤ 2)).length < 28
    ∧ Posted (queued 28 0 arbReset) ∧ 28 ≤ ((queued 28 0 arbReset).queue.filter fun n => decide (n.level.val ≤ 2)).length
    ∧ arbReset.sources[(17 : SourceNo)].level = some 0 ∧ arbReset.sources[(17 : SourceNo)].pending = none := by decide
theorem test_meets_RaisesAndReports_full :
    Posted (queued 31 3 arbReset) ∧ (queued 31 3 arbReset).queue.length < 32 ∧ Posted (queued 32 3 arbReset)
    ∧ 32 ≤ (queued 32 3 arbReset).queue.length ∧ arbReset.sources[(0 : SourceNo)].level = some 3
    ∧ arbReset.sources[(0 : SourceNo)].pending = none ∧ sourceIsLevel 0 = false := by decide
/-- A LEVEL source whose condition is false, one DISABLED, and one whose condition is true. -/
theorem test_meets_RaisesAndReports_level :
    sourceIsLevel srcNoFlow = true ∧ arbReset.sources[srcNoFlow].cond = false ∧ Posted arbReset
    ∧ (∃ l : Fin 4, arbReset.sources[srcNoFlow].level = some l ∧ arbReset.mask ≤ l)
    ∧ Posted (source srcNoFlow (fun x => { x with cond := true }) arbReset)
    ∧ Posted (source srcNoFlow (fun x => { x with level := none }) arbReset)
    ∧ Posted { arbReset with mask := 3 } ∧ (∃ l : Fin 4, arbReset.sources[srcNoFlow].level = some l ∧ l < 3) := by decide

theorem test_meets_ArbiterRequests_source : running.link.rx ≠ .replying ∧ (1 : Byte).toNat < 2 ∧ 20 < (21 : Byte).toNat
    ∧ (20 : Byte).toNat = (20 : SourceNo).val ∧ (2 : Byte).toNat = (2 : SourceNo).val ∧ (255 : Byte).toNat = 255
    ∧ (2 : Byte).toNat = (2 : Fin 4).val ∧ 3 ≤ (3 : Byte).toNat ∧ (254 : Byte).toNat ≤ 254 := by decide
theorem test_source_level_3_taken_as_2 : ends (.setSource 1 20 3) running (fun t =>
    (answered t).take 4 == [0, 1, 20, 2] && t.arb.sources[(20 : SourceNo)].level == some 2) = true := by decide
theorem test_source_1_refused : ends (.setSource 1 1 0) running (fun t => answered t == [18, 0]) = true := by decide

/-- A saved take of Tag 41. -/
def taken : State := { running with arb := { queued 9 0 arbReset with saved := some (41, [⟨20, 0, 0, none, none, 0⟩]) } }
theorem test_meets_ArbiterRequests_take : running.link.rx ≠ .replying ∧ (3 : Fin 4).val = min 3 (4 : Byte).toNat
    ∧ (∀ p ∈ taken.arb.saved, p.1 ≠ 42) ∧ taken.arb.saved = some (41, [⟨20, 0, 0, none, none, 0⟩]) := by decide
theorem test_eight_notices_taken : ends (.takeNotices 42) taken (fun t =>
    t.arb.queue.length == 1 && (answered t).length == 2 + 1 + 8 * 13 + 1) = true := by decide
theorem test_a_take_repeated : ends (.takeNotices 41) taken (fun t =>
    t.arb.queue.length == 9 && (answered t).take 3 == [0, 0, 1]) = true := by decide
theorem test_mask_above_3 : ends (.setMask 1 4 0) running (fun t => answered t == [0, 1, 3, 0]) = true := by decide

/-! ### The table and the totals -/

/-- A line holding the cabinet in a phase. -/
def having (ph : Phase) : State := put (cabinet ph) running
/-- A full table: the Idents 1 to 48. -/
def full : State := { running with table := { running.table with
  slots := Vector.ofFn fun i => some { cabinet .queued with slot := i, ident := BitVec.ofNat 32 (i.val + 1) } } }

theorem test_meets_AdmitAppliance : running.link.rx ≠ .replying ∧ declaredOf 5 = none ∧ declaredOf 4 = some none
    ∧ foamClassOf 7 = none ∧ foamClassOf 6 = some 6 ∧ foamAgentOf 2 = none ∧ foamAgentOf 4 = some .unknown
    ∧ running.record 0 = none ∧ (∀ j : Slot, j < 0 → running.record j ≠ none) ∧ (6 : Fin 7).val = (5 : Fin 6).val + 1 := by decide
theorem test_meets_AdmitAppliance_duplicate : ∃ j, ∃ q ∈ (having .queued).record j, q.ident = 7 := by decide
theorem test_meets_AdmitAppliance_full : ∀ j, ∃ q ∈ full.record j, q.ident ≠ 100 := by decide
theorem test_table_full : ends (.admitAppliance 1 100 1 0 0 0) full (fun t => answered t == [48, 0]) = true := by decide

theorem test_meets_QueriesAndReads : Only (having .queued) (cabinet .queued) ∧ (3 : Word).toNat = (3 : Slot).val
    ∧ running.record 47 = none ∧ (47 : Word).toNat = (47 : Slot).val ∧ 47 < (48 : Word).toNat ∧ ((0 : Byte) ≠ 1 ∧ (0 : Byte) ≠ 2)
    ∧ stationOf 2 = some 1 ∧ running.fitted 1 = true ∧ stationOf 3 = some 2 ∧ running.fitted 2 = false
    ∧ stationOf 0 = none ∧ stationOf 5 = none ∧ (15 : Byte).toNat = (15 : ChannelNo).val ∧ 15 < (16 : Byte).toNat := by decide
theorem test_meets_ReadContents : (running.channel 15).ring.length ≤ 8 ∧ (∃ content, content = running.statusContent) :=
  ⟨by decide, ⟨_, rfl⟩⟩
/-- R190: line state RUN, AIR, the readings absent, the Feeder IDLE, SHREDDER RUNNING, the stations IDLE, the clock 100. -/
theorem test_read_status_fields : running.statusContent.take 4 = [2, 0, 1, 0]
    ∧ (running.statusContent.drop 21).take 14 = [1, 0, 0, 0, 0, 0, 0, 0, 0, 1, 1, 1, 1, 1]
    ∧ running.statusContent.drop 80 = [0, 0, 0, 100] := by decide
theorem test_meets_Layouts : (∃ content, content = (cabinet .queued).chars) ∧ (∃ content, content = pendingChars none) :=
  ⟨⟨_, rfl⟩, ⟨_, rfl⟩⟩
/-- R191: FLAMMABLE is bit 13, a verdict sets presence bit 3. -/
theorem test_bit_fields : Flags.field { flammable := true } = 8192
    ∧ Record.presence { cabinet .extracted with verdict := some .short } = 8 := by decide
theorem test_query_empty_slot : ends (.queryAppliance 1 2 47) running (fun t => answered t == [50, 0]) = true := by decide
theorem test_query_slot_48 : ends (.queryAppliance 1 2 48) running (fun t => answered t == [18, 0]) = true := by decide
theorem test_read_unfitted : ends (.readStation 1 3) running (fun t => answered t == [65, 0]) = true := by decide
theorem test_read_status_length : ends (.readStatus 1) running (fun t => (answered t).length == 86) = true := by decide
theorem test_read_config_length : ends (.readConfig 1) running (fun t => (answered t).length == 201) = true := by decide
theorem test_read_channel_start : ends (.readChannel 1 15) running (fun t => (answered t).take 4 == [0, 0, 15, 1]) = true := by decide
theorem test_meets_ListTable : (having .queued).link.rx ≠ .replying := by decide
/-- One record in slot 3, QUEUED: bit 4 of the first character, its Ident, its phase in the high half. -/
theorem test_list_of_one : ends (.listTable 1) (having .queued) (fun t =>
    answered t == [0, 0, 16, 0, 0, 0, 0, 0, 0, 0, 0, 7, 16]) = true := by decide

theorem test_meets_WithdrawAndRelease_withdraw : Only (having .queued) (cabinet .queued) ∧ Only (having .closed) (cabinet .closed)
    ∧ (having .queued).table.shredQueue.head? ≠ some 3 ∧ (7 : Word) ≠ 0 ∧ (∀ j, ∀ q ∈ running.record j, q.ident ≠ 7) := by decide
theorem test_meets_WithdrawAndRelease_head : Only waiting (cabinet .shredWait) ∧ waiting.table.shredQueue.head? = some 3 := by decide
theorem test_withdraw_last : ends (.withdraw 1 7) waiting (fun t => answered t == [0, 0] && t.feeder.state == .idle
    && t.table.closedList == [3] && t.totals[(19 : TotalNo)].value == 1) = true := by decide

theorem test_meets_WithdrawAndRelease_release : Only (having .extracted) (cabinet .extracted) ∧ (having .extracted).feeder.state = .idle
    ∧ Only (feeder .jammed (having .extracted)) (cabinet .extracted) ∧ (feeder .jammed (having .extracted)).feeder.state ≠ .idle
    ∧ (cabinet .queued).phase ≠ .extracted := by decide
theorem test_release : ends (.releaseToShred 1 7) (having .extracted) (fun t => answered t == [0, 0, 0, 0, 0, 0, 1]
    && t.table.shredQueue == [3] && t.feeder.state == .waitPermit) = true := by decide

/-- The cabinet closed and waiting to be taken, beside a saved take of Tag 9. -/
def closed : State := put (cabinet .closed) { running with
  table := { running.table with closedList := [3], saved := some (9, [cabinet .closed]) } }
theorem test_meets_TakeClosed : closed.table.saved = some (9, [cabinet .closed]) ∧ (∀ p ∈ closed.table.saved, p.1 ≠ 8)
    ∧ (∀ i ∈ closed.table.closedList, closed.record i ≠ none) ∧ closed.table.closedList.Nodup := by decide
theorem test_take_and_remove : ends (.takeClosed 8) closed (fun t => (answered t).length == 2 + 1 + 50 + 1
    && t.table.closedList == [] && t.record 3 == none) = true := by decide
theorem test_take_again : ends (.takeClosed 9) closed (fun t => (answered t).getLast? == some 1 && t.table.closedList == [3]) = true := by
  decide

/-- A total one below its maximum, one at it, and one with its indicator set. -/
def total (v : Nat) (b : Bool) : State := { running with totals := running.totals.set 2 ⟨v, b⟩ }
theorem test_meets_AdditionsToTotals : (total 4294967294 false).totals[(2 : TotalNo)].value + 1 ≤ 4294967295
    ∧ 4294967295 < (total 4294967294 false).totals[(2 : TotalNo)].value + 2 ∧ (total 4294967294 false).totals[(2 : TotalNo)].saturated = false
    ∧ 4294967295 < (total 4294967295 true).totals[(2 : TotalNo)].value + 1 ∧ (total 4294967295 true).totals[(2 : TotalNo)].saturated = true := by
  decide
/-- A close of a record declared UNKNOWN, unmeasured, without an extraction verdict, withdrawn; and of a rated one. -/
theorem test_meets_AdditionsToTotals_close :
    (∃ r : Record, r.foamVerdict = some .notShredded ∧ r.measured = none ∧ r.declared = none ∧ r.verdict = none)
    ∧ (3 : TotalNo).val + 1 = 4 ∧ (15 : TotalNo).val = 15 ∧ (19 : TotalNo).val = 15 + FoamVerdict.notShredded.code
    ∧ (2 : TotalNo).val + 1 = Gas.hydro.code ∧ (14 : TotalNo).val = 8 + Verdict.conflict.code :=
  ⟨⟨{ cabinet .closed with declared := none, foamVerdict := some .notShredded }, rfl, rfl, rfl, rfl⟩, by decide⟩
theorem test_saturation : ((total 4294967294 false).addTotal 2 2).totals[(2 : TotalNo)] = ⟨4294967295, true⟩
    ∧ ((total 4294967294 false).addTotal 2 1).totals[(2 : TotalNo)] = ⟨4294967295, false⟩ := by decide
theorem test_meets_ReadAndClearTotals : (total 5 false).link.rx ≠ .replying := by decide
theorem test_clear_totals : ends (.clearTotals 1) (total 5 false) (fun t => (answered t).length == 110
    && t.totals[(2 : TotalNo)].value == 0 && t.totalsStart == 100) = true := by decide
theorem test_read_totals : ends (.readTotals 1) (total 5 false) (fun t => ((answered t).drop 12).take 5 == [0, 0, 0, 5, 0]) = true := by
  decide

/-! ### The Feeder -/

/-- The permit in AIR, for a cabinet that is not FLAMMABLE, one window short of eight. -/
def permitted : State := reads 10 100 .ok waiting
theorem test_meets_FeedPermit : running.feeder.state ≠ .waitPermit ∧ permitted.feeder.state = .waitPermit
    ∧ permitted.table.shredQueue = [3] ∧ permitted.line.state = .run ∧ permitted.pins.shredderRunning = true
    ∧ permitted.table.openSet.length < 8 ∧ (permitted.channel 10).status = .ok
    ∧ (permitted.channel 10).value < (permitted.item iVHigh : Int) ∧ permitted.atm.state = .air
    ∧ (∀ r ∈ permitted.record 3, r.flags.flammable = false) := by decide
theorem test_meets_FeedPermit_refused : waiting.feeder.state = .waitPermit ∧ (waiting.channel 10).status ≠ .ok
    ∧ (permitted.channel 10).value < 101 ∧ ¬(permitted.channel 10).value < 100 := by decide
theorem test_meets_FeedPermit_empty : (feeder .waitPermit running).feeder.state = .waitPermit ∧ running.table.shredQueue = [] := by decide
theorem test_permit_opens : (shut permitted).judgePermit.feeder.state = .opening ∧ permitted.judgePermit.feeder.state = .passing := by
  decide

theorem test_meets_GateCycle : running.pins.shredderRunning ≠ false ∧ (shut (fed .opening)).pins.gateClosed = true
    ∧ (shut (fed .opening)).feeder.state = .opening ∧ (shut running).feeder.state ≠ .opening
    ∧ running.feeder.state ≠ .passing ∧ (fed .passing).feeder.state = .passing ∧ (fed .passing).table.feeding = some 3
    ∧ (fed .passing).record 3 = some (cabinet .feeding) ∧ (fed .passing).pins.gateClosed = false
    ∧ (shut (fed .passing)).pins.gateClosed = true ∧ (feeder .closing running).feeder.state = .closing := by decide
theorem test_shredder_stops : ends (.shredderRunningChange false) permitted (fun t => t.feeder.state == .waitPermit) = true := by decide
theorem test_gate_opens : ends .gateClosedFalse (shut (fed .opening)) (fun t => t.feeder.state == .passing) = true := by decide
theorem test_feed_event : ends .feedCapture (fed .passing) (fun t => t.feeder.state == .closing && t.table.openSet == [3]
    && (t.record 3).any fun r => r.feedTime == some 100 && r.ticks == some 18) = true := by decide
theorem test_gate_closes : ends .gateClosedTrue (feeder .closing running) (fun t => t.feeder.state == .idle) = true := by decide

/-- A jammed Feeder with the cabinet between the gates, and without one. -/
def jammed : State := fed .jammed
theorem test_meets_Jams : (fed .opening).feeder.deadline = some (fed .opening).clock ∧ (fed .opening).table.feeding = some 3
    ∧ (fed .opening).record 3 = some (cabinet .feeding) ∧ (fed .passing).feeder.deadline = some (fed .passing).clock
    ∧ (feeder .closing running).feeder.deadline = some (feeder .closing running).clock ∧ running.feeder.state ≠ .jammed
    ∧ jammed.feeder.state = .jammed ∧ jammed.pins.gateClosed = false ∧ (shut jammed).pins.gateClosed = true
    ∧ jammed.table.feeding = some 3 ∧ (feeder .jammed running).table.feeding = none := by decide
theorem test_gate_stuck : ends .tOpenExpiry (fed .opening) (fun t => t.feeder.jam == some .gateStuck
    && t.table.shredQueue == [3]) = true := by decide
theorem test_feed_jam : ends .tPassExpiry (fed .passing) (fun t => t.feeder.jam == some .feedJam
    && t.table.feeding == some 3) = true := by decide
theorem test_gate_stuck_closing : ends .tCloseExpiry (feeder .closing running) (fun t => t.feeder.jam == some .gateStuck) = true := by
  decide
theorem test_feed_clear : ends (.feedClear 1) (shut jammed) (fun t => t.table.openSet == [3] && t.feeder.state == .idle
    && (t.record 3).any fun r => r.flags.feedClearedByHost) = true := by decide
theorem test_feed_return : ends (.feedReturn 1) (shut jammed) (fun t => t.table.shredQueue == [3]
    && t.feeder.state == .waitPermit) = true := by decide
theorem test_feed_return_open : ends (.feedReturn 1) jammed (fun t => answered t == [37, 0]) = true := by decide

/-! ### The stations -/

/-- Settled rings of station 1. -/
def settled (s : State) : State := reads 0 1000 .ok (reads 12 50 .ok s)
/-- Station 1 idle with a receiver. -/
def receiver (rc : Receiver) (s : State) : State := { s with stations := s.stations.set 0 { stationReset with receiver := rc } }
theorem test_meets_BeginExtraction : Only (having .queued) (cabinet .queued) ∧ stationOf 5 = none ∧ stationOf 1 = some 0
    ∧ (inLine .hold (having .queued)).line.state ≠ .run ∧ (having .queued).line.state = .run ∧ (having .queued).fitted 2 = false
    ∧ (having .queued).fitted 0 = true ∧ ((having .queued).station 0).state = .idle
    ∧ ((holding .clamping id).station 0).state ≠ .idle ∧ (∀ j, ∀ q ∈ running.record j, q.ident ≠ 7)
    ∧ (cabinet .extracted).phase ≠ .queued ∧ (cabinet .queued).attempts < 2 := by decide
theorem test_meets_BeginExtraction_fill :
    let s := having .queued
    (s.channel (scaleChannel 0)).value < (s.item (iFill 0) : Int)
    ∧ ((reads 0 (s.item (iFill 0)) .ok s).item (iFill 0) : Int) ≤ ((reads 0 (s.item (iFill 0)) .ok s).channel (scaleChannel 0)).value := by
  decide
theorem test_meets_BeginExtraction_class :
    ((receiver ⟨some .fluoro, 0, 0, false⟩ (having .queued)).station 0).receiver.assigned = some .fluoro
    ∧ (cabinet .queued).declared ≠ none ∧ (cabinet .queued).declared ≠ some .fluoro
    ∧ ((receiver ⟨none, 0, 0, true⟩ (having .queued)).station 0).receiver.contaminated = true
    ∧ (stationReset.receiver.contaminated = false ∧ stationReset.receiver.assigned = none) := by decide
theorem test_meets_BeginExtraction_starts : (having .queued).pins.clamp[(0 : StationNo)] = false
    ∧ (clamped (having .queued)).pins.clamp[(0 : StationNo)] = true ∧ (clamped (having .queued)).ringsSettled 0 = false
    ∧ (clamped (settled (having .queued))).ringsSettled 0 = true := by decide
theorem test_begin_through_to_piercing : ends (.beginExtraction 1 7 1) (clamped (settled (having .queued))) (fun t =>
    answered t == [1, 0, 1, 3, 0] && (t.station 0).state == .piercing && (t.station 0).tareReceiver == some 1000
    && (t.record 3).any fun r => r.attempts == 1 && r.used == [0]) = true := by decide
theorem test_begin_conflict : ends (.beginExtraction 1 7 1) (receiver ⟨some .fluoro, 0, 0, false⟩ (having .queued)) (fun t =>
    answered t == [68, 0]) = true := by decide

theorem test_meets_ChannelLaws : (0 : Raw).toNat = 0 ∧ (65535 : Raw).toNat = 65535 ∧ 1 ≤ (1 : Raw).toNat ∧ (65534 : Raw).toNat ≤ 65534
    ∧ (65535 * ((1 : Int) - (channelReset 13).zero) ≤ (1 : Raw).toNat * (channelReset 13).span + 32767
      ∧ (1 : Raw).toNat * (channelReset 13).span + 32767 < 65535 * ((1 : Int) - (channelReset 13).zero + 1)) := by decide
theorem test_meets_BeforePiercing :
    let s := holding .clamping id
    (s.station 0).bound = some 3 ∧ s.record 3 = some { cabinet .extracting with bound := some 0 } ∧ s.pins.clamp[(0 : StationNo)] = false
    ∧ (s.station 0).state = .clamping ∧ s.ringsSettled 0 = false ∧ (settled s).ringsSettled 0 = true
    ∧ (s.station 0).deadline = some s.clock ∧ ((holding .taring id).station 0).state = .taring
    ∧ ((holding .taring id).station 0).deadline = some (holding .taring id).clock := by decide
/-- R54: the clamp open outside CLAMPING, and (log 11) closed already. -/
theorem test_meets_BeforePiercing_elsewhere : running.pins.clamp[(0 : StationNo)] = false ∧ (running.station 0).state ≠ .clamping
    ∧ (clamped running).pins.clamp[(0 : StationNo)] = true := by decide
theorem test_clamp_closes_in_idle : ends (.clampClosedTrue 0) running (fun t => t.pins.clamp[(0 : StationNo)]
    && (t.station 0).state == .idle) = true := by decide
theorem test_clamp_closes : ends (.clampClosedTrue 0) (holding .clamping id) (fun t => (t.station 0).state == .taring) = true := by decide
theorem test_clamp_timeout : ends (.clampTimeout 0) (holding .clamping id) (fun t => (t.station 0).faultCause == some .clampTimeout
    && (t.record 3).any fun r => r.phase == .queued && r.attempts == 0) = true := by decide
theorem test_scale_unsettled : ends (.scaleUnsettled 0) (holding .taring id) (fun t =>
    (t.station 0).faultCause == some .scaleUnsettled && t.arb.queue.length == 1) = true := by decide

theorem test_meets_SequenceExpiries :
    ((holding .piercing weighed).station 0).deadline = some (holding .piercing weighed).clock
    ∧ ((holding .riseTest weighed).station 0).state = .riseTest ∧ (holding .riseTest weighed).item iTDrain ≠ 0
    ∧ State.item { holding .riseTest weighed with settings := (holding .riseTest weighed).settings.set iTDrain 0 } iTDrain = 0
    ∧ ((holding .drainingOil weighed).station 0).state = .drainingOil
    ∧ (holding .weighing weighed).ringsSettled 0 = false ∧ (settled (holding .weighing weighed)).ringsSettled 0 = true := by decide
/-- A receiver at the fill limit at a rise, and settled rings with T_drain 0. -/
theorem test_meets_SequenceExpiries_rise :
    let s := reads 0 450000 .ok (holding .riseTest weighed)
    let u := settled { s with settings := s.settings.set iTDrain 0 }
    (s.item (iFill 0) : Int) ≤ (s.channel (scaleChannel 0)).value
    ∧ ((reads 0 449999 .ok s).channel (scaleChannel 0)).value < (s.item (iFill 0) : Int)
    ∧ u.item iTDrain = 0 ∧ u.ringsSettled 0 = true := by decide
theorem test_pierced : ends (.tPierceExpiry 0) (holding .piercing weighed) (fun t => (t.station 0).state == .evacuating
    && (t.station 0).probeDeadline.isSome) = true := by decide
theorem test_risen : ends (.tRiseExpiry 0) (holding .riseTest weighed) (fun t => (t.station 0).state == .drainingOil) = true := by decide
theorem test_drained : ends (.tDrainExpiry 0) (settled (holding .drainingOil weighed)) (fun t => (t.station 0).state == .idle
    && (t.record 3).any fun r => r.verdict == some .empty && r.phase == .extracted) = true := by decide

/-- Station 1 at its probe deadline, with a receiver. -/
def probing (rc : Receiver) : State :=
  holding .evacuating fun x => { weighed x with probeDeadline := some 100, receiver := rc }
theorem test_meets_ProbeAndEvacuationTimeout_probe :
    let s := probing ⟨some .chloro, 0, 0, false⟩
    (s.station 0).state = .evacuating ∧ (s.station 0).probeDeadline = some s.clock ∧ (s.station 0).bound = some 3
    ∧ s.record 3 = some { cabinet .extracting with bound := some 0 } ∧ (s.station 0).receiver.assigned = some .chloro
    ∧ ((probing ⟨none, 0, 0, false⟩).station 0).receiver.assigned = none ∧ gasOfPair 0 = none ∧ gasOfPair 1 = some .chloro
    ∧ gasOfPair 3 = some .hydro ∧ (cabinet .extracting).declared ≠ none := by decide
/-- Each outcome of the probe is met: a measured class that differs, a class that is not the receiver's, none at all. -/
theorem test_meets_ProbeAndEvacuationTimeout_outcomes :
    (∃ r : Record, r.measured = some .chloro ∧ gasOfPair 3 = some .hydro ∧ Gas.hydro ≠ Gas.chloro)
    ∧ (∃ r : Record, r.measured = none ∧ r.declared = none ∧ gasOfPair 0 = none) :=
  ⟨⟨{ cabinet .extracting with measured := some .chloro }, by decide⟩, ⟨{ cabinet .extracting with declared := none }, by decide⟩⟩
theorem test_probe_hydro : ends (.probe 0 3) (probing ⟨none, 0, 0, false⟩) (fun t => (t.station 0).receiver.assigned == some .hydro
    && (t.record 3).any fun r => r.measured == some .hydro && r.flags.flammable && r.flags.classMismatch) = true := by decide
theorem test_probe_conflict : ends (.probe 0 2) (probing ⟨some .chloro, 0, 0, false⟩) (fun t =>
    (t.station 0).state == .abortWeighing && (t.station 0).endCause == some .conflict) = true := by decide

theorem test_meets_ProbeAndEvacuationTimeout_evac :
    let s := holding .evacuating fun x => { weighed x with probeTaken := true }
    (s.station 0).state = .evacuating ∧ (s.station 0).deadline = some s.clock ∧ (s.station 0).bound = some 3
    ∧ s.record 3 = some { cabinet .extracting with bound := some 0 } ∧ (s.station 0).probeTaken = true
    ∧ ((probing ⟨none, 0, 0, false⟩).station 0).probeTaken = false
    ∧ ((probing ⟨none, 0, 0, false⟩).station 0).deadline = some (probing ⟨none, 0, 0, false⟩).clock := by decide
theorem test_evacuation_timeout : ends (.tEvacExpiry 0 1) (probing ⟨none, 0, 0, false⟩) (fun t => (t.station 0).state == .riseTest
    && (t.station 0).probeTaken && (t.record 3).any fun r => r.flags.evacTimeout && r.measured == some .chloro) = true := by decide

/-- Channel A1 next to convert, station 1 in a state. -/
def converting (c : Fin 8) (s : State) : State := { s with scan := { s.scan with next := c } }
/-- A dwell under way whose length has just passed. -/
def dwelling : State := converting 1 (holding .evacuating fun x =>
  { weighed x with probeTaken := true, copyTarget := 100, dwellStart := some 40, copyDwell := 60 })
/-- A rise test with a reference of 100, the rise limit 10 and a count of retries. -/
def rising (k : Nat) : State := converting 1 (holding .riseTest fun x =>
  { weighed x with riseRef := some 100, copyRise := 10, rises := k })
theorem test_meets_GroupAConversion :
    running.scan.next = 0 ∧ (0 : Fin 8).val < 2 * running.fittedCount ∧ (3 : Fin 8).val < 2 * running.fittedCount
    ∧ (3 : Fin 8).val + 1 = 2 * running.fittedCount ∧ (0 : Fin 8).val / 2 = (0 : StationNo).val ∧ (1 : Fin 8).val % 2 = 1
    ∧ (running.station 0).state ≠ .evacuating ∧ (running.station 0).state ≠ .riseTest := by decide
theorem test_meets_GroupAConversion_dwell :
    (dwelling.station 0).state = .evacuating ∧ (dwelling.station 0).dwellStart = some 40
    ∧ (dwelling.station 0).copyDwell ≤ (dwelling.clock - 40).toNat ∧ (dwelling.station 0).probeTaken = true
    ∧ ((dwelling.channel 1).convert 655).status = .ok ∧ ((dwelling.channel 1).convert 655).value = 100
    ∧ ((dwelling.channel 1).convert 0).status ≠ .ok ∧ (((dwelling.station 0).copyTarget : Int) < ((dwelling.channel 1).convert 665).value) := by
  decide
theorem test_meets_GroupAConversion_rise :
    ((rising 2).station 0).riseRef = some 100 ∧ ((rising 2).station 0).bound = some 3 ∧ ((rising 1).station 0).rises < 2
    ∧ 2 ≤ ((rising 2).station 0).rises ∧ (100 : Int) + ((rising 2).station 0).copyRise < (((rising 2).channel 1).convert 730).value
    ∧ (((rising 2).channel 1).convert 720).value ≤ (100 : Int) + ((rising 2).station 0).copyRise := by decide
/-- An evacuation with a copied fill limit; the raw reading 131 is 999 dg on the scale (500,000 · 131 / 65,535). -/
def filling (k : Nat) : State := converting 0 (holding .evacuating fun x => { weighed x with copyFill := k })
theorem test_meets_GroupAConversion_fill :
    ((filling 999).station 0).state = .evacuating ∧ (((filling 999).station 0).copyFill : Int) ≤ (((filling 999).channel 0).convert 131).value
    ∧ (((filling 1000).channel 0).convert 131).value < (((filling 1000).station 0).copyFill : Int) := by decide
/-- An evacuation ends by its dwell, and by a full receiver. -/
theorem test_evacuation_ends : ends (.groupAConversion 655) dwelling (fun t => (t.station 0).state == .riseTest
    && (t.station 0).riseRef == some 100 && t.scan.next == 2 && t.scan.due == 102) = true
    ∧ ends (.groupAConversion 131) (filling 999) (fun t => (t.station 0).state == .abortWeighing
      && (t.station 0).endCause == some .receiverFull) = true := by decide
theorem test_third_rise : ends (.groupAConversion 730) (rising 2) (fun t => (t.station 0).state == .drainingOil
    && (t.record 3).any fun r => r.flags.outgassing) = true := by decide

theorem test_meets_AbortAndClampOpened :
    stationOf 1 = some 0 ∧ running.fitted 0 = true ∧ (running.station 0).state.running = false
    ∧ ((holding .piercing weighed).station 0).state.running = true ∧ ((holding .piercing weighed).station 0).pierced = true
    ∧ ((holding .taring id).station 0).state.running = true ∧ ((holding .taring id).station 0).pierced = false
    ∧ ((holding .taring id).station 0).bound = some 3 ∧ (clamped (holding .taring id)).pins.clamp[(0 : StationNo)] = true
    ∧ ((holding .awaitUnclamp id).station 0).state = .awaitUnclamp ∧ (holding .piercing weighed).ringsSettled 0 = false := by decide
theorem test_abort_unpierced : ends (.abortExtraction 1 1) (holding .taring id) (fun t => answered t == [1, 0]
    && (t.station 0).state == .idle && (t.record 3).any fun r => r.phase == .queued) = true := by decide
theorem test_abort_pierced : ends (.abortExtraction 1 1) (holding .piercing weighed) (fun t =>
    (t.station 0).state == .abortWeighing && (t.station 0).endCause == some .abort) = true := by decide
theorem test_clamp_opened_in_taring : ends (.clampOpened 0) (clamped (holding .taring id)) (fun t =>
    (t.station 0).state == .idle && t.arb.queue.map Notice.source == [2]) = true := by decide
theorem test_clamp_opened_after_weighing : ends (.clampOpened 0) (clamped (holding .awaitUnclamp id)) (fun t =>
    (t.station 0).state == .idle) = true := by decide

/-- ABORT_WEIGHING with an end cause. -/
def ending (c : EndCause) : State := holding .abortWeighing fun x => { weighed x with endCause := some c }
theorem test_meets_WeighingStep :
    let s := holding .weighing weighed
    (s.station 0).deadline = some s.clock ∧ (s.station 0).bound = some 3 ∧ s.record 3 = some { cabinet .extracting with bound := some 0 }
    ∧ (s.station 0).tareReceiver = some 1000 ∧ (s.station 0).tareOil = some 50 ∧ (s.station 0).state = .weighing
    ∧ (s.station 0).endCause = none := by decide
theorem test_meets_WeighingStep_abort :
    ((ending .conflict).station 0).state = .abortWeighing ∧ ((ending .conflict).station 0).endCause = some .conflict
    ∧ ((ending .undetermined).station 0).endCause = some .undetermined ∧ ((ending .abort).station 0).endCause = some .abort
    ∧ ((ending .stop).station 0).endCause = some .stop ∧ ((ending .clampOpened).station 0).endCause = some .clampOpened
    ∧ ((ending .receiverFull).station 0).endCause = some .receiverFull
    ∧ ((ending .receiverFull).station 0).tareReceiver = some 1000 ∧ ((ending .receiverFull).station 0).tareOil = some 50 := by decide
theorem test_meets_WeighingStep_settled :
    (settled (holding .weighing weighed)).ringsSettled 0 = true ∧ (settled (holding .taring id)).ringsSettled 0 = true
    ∧ ((settled (holding .taring id)).station 0).state = .taring ∧ (holding .weighing weighed).ringsSettled 0 = false
    ∧ ((settled (ending .stop)).station 0).state = .abortWeighing := by decide
theorem test_weighing_settled : ((settled (holding .weighing weighed)).judgeRings 0).station 0 = { stationReset with
    state := .idle, pierced := true, tareReceiver := some 1000, tareOil := some 50, finalReceiver := some 1000
    finalOil := some 50, receiver := ⟨some .chloro, 0, 0, false⟩ } := by decide
theorem test_weighing : ends (.weighingSettleTimeout 0) (reads 0 1900 .ok (reads 12 40 .ok (holding .weighing weighed))) (fun t =>
    (t.record 3).any fun r => r.mr == 900 && r.mo == 0 && r.rho == some 900 && r.verdict == some .complete && r.flags.negativeClamped) = true := by
  decide
theorem test_full_receiver : ends (.weighingSettleTimeout 0) (ending .receiverFull) (fun t => (t.station 0).faultCause == some .receiverFull
    && (t.record 3).any fun r => r.phase == .queued) = true := by decide

theorem test_meets_MassTables :
    (∃ c : Channel, c.settled = true) ∧ (∃ c : Channel, c.settled = false ∧ c.ring = []) ∧ (∃ c : Channel, c.settled = false ∧ c.ring ≠ [])
    ∧ (∀ cause : EndCause, (some cause = some .conflict ∨ some cause = some EndCause.undetermined) → (20 : Nat) < 21)
    ∧ (19 : Nat) < 20 ∧ 900 ≤ min 1999 (900 * 1000 / 1000) ∧ min 1999 (899 * 1000 / 1000) < 900 :=
  ⟨⟨(reads 0 5 .ok running).channel 0, by decide⟩, ⟨running.channel 0, by decide⟩, ⟨{ channelReset 0 with ring := [3] }, by decide⟩,
    fun _ _ => by decide, by decide, by decide, by decide⟩
/-- R52: what stops for good contaminates above M_empty alone; a first class is assigned; a foreign one contaminates. -/
theorem test_gate : (Receiver.gate ⟨none, 5, 1, false⟩ (some .conflict) (some .hydro) 21 20) = ⟨none, 26, 2, true⟩
    ∧ (Receiver.gate ⟨none, 5, 1, false⟩ (some .conflict) (some .hydro) 20 20) = ⟨none, 5, 1, false⟩
    ∧ (Receiver.gate ⟨none, 5, 1, false⟩ none (some .hydro) 20 20) = ⟨some .hydro, 25, 2, false⟩
    ∧ (Receiver.gate ⟨some .fluoro, 5, 1, false⟩ (some .stop) (some .hydro) 21 20) = ⟨some .fluoro, 26, 2, true⟩ := by decide

theorem test_meets_StationRequests : Only (having .queued) (cabinet .queued) ∧ (inLine .stop (having .queued)).line.state = .stop
    ∧ (cabinet .extracted).phase ≠ .queued ∧ stationOf 0 = none ∧ stationOf 4 = some 3 ∧ running.fitted 3 = false
    ∧ stationOf 1 = some 0 ∧ running.fitted 0 = true ∧ (running.station 0).state ≠ .faulted
    ∧ ((holding .faulted id).station 0).state = .faulted ∧ ((holding .faulted id).station 0).state ≠ .idle
    ∧ (running.station 0).state = .idle := by decide
theorem test_waive : ends (.waiveExtraction 1 7) (having .queued) (fun t => answered t == [0, 0]
    && (t.record 3).any fun r => r.verdict == some .waived && r.rho == some 0) = true := by decide
theorem test_clear_station : ends (.clearStation 1 1) (clamped (holding .faulted id)) (fun t =>
    (t.station 0).state == .awaitUnclamp && (t.station 0).faultCause == none) = true := by decide
theorem test_receiver_changed : ends (.receiverChanged 1 1) (receiver ⟨some .hydro, 9, 1, true⟩ running) (fun t =>
    (t.station 0).receiver == receiverReset) = true := by decide
theorem test_receiver_busy : ends (.receiverChanged 1 1) (holding .faulted id) (fun t => answered t == [64, 0]) = true := by decide

/-! ### The line -/

theorem test_meets_LineRequests : (inLine .initial running).line.state = .initial ∧ (inLine .hold running).line.state = .hold
    ∧ running.line.state = .run ∧ (inLine .stop running).line.state = .stop ∧ running.pins.emergencyStop = false
    ∧ (pressed running).pins.emergencyStop = true ∧ running.line.emergencyMark = false
    ∧ Line.emergencyMark { running.line with emergencyMark := true } = true := by decide
theorem test_run_pressed : ends (.lineRun 1) (pressed (inLine .hold running)) (fun t => answered t == [35, 0, 3]) = true := by decide
theorem test_run : ends (.lineRun 1) (inLine .initial running) (fun t => answered t == [0, 0, 2] && t.line.state == .run) = true := by
  decide
theorem test_hold_broadcast : ends (.lineHold 1 true) running (fun t => t.line.state == .hold && t.link.reply == none
    && t.link.good == 1) = true := by decide
theorem test_resume : ends (.lineResume 1) (inLine .stop running) (fun t => answered t == [0, 0, 3]) = true := by decide
theorem test_pressed : ends .emergencyStopAsserted running (fun t => t.line.state == .stop
    && t.arb.queue == [⟨1, 3, 100, none, some (.line .run), 0⟩]) = true := by decide
theorem test_released : ends .emergencyStopReleased (pressed (inLine .stop running)) (fun t => t.line.state == .stop
    && !t.pins.emergencyStop) = true := by decide

theorem test_meets_EntryToStop_stations : working.line.state ≠ .stop ∧ (working.station 1).state.running = false
    ∧ (working.station 0).state.running = true ∧ (working.station 0).pierced = true ∧ (working.station 0).bound = some 3
    ∧ ((holding .taring id).station 0).pierced = false := by decide
/-- A consistent line with the gate opening, and with the cabinet passing. -/
theorem test_meets_EntryToStop_feeder : (fed .opening).feederLaw ∧ (fed .passing).feederLaw
    ∧ (fed .opening).feeder.state = .opening ∧ (fed .opening).table.feeding = some 3 ∧ (fed .passing).feeder.state = .passing
    ∧ running.feeder.state ≠ .opening ∧ running.feeder.state ≠ .passing := by decide
theorem test_meets_EntryToStop_table : (fed .opening).tableLaw := by decide
theorem test_meets_EntryToStop_bindings : (fed .opening).bindingLaw := by decide
theorem test_meets_EntryToStop_law : (∀ n : StationNo, ((fed .opening).station n).law)
    ∧ ((fed .opening).atm.tripCauses.isSome ↔ (fed .opening).atm.state = .tripped) := by decide
theorem test_stop_while_opening : ends (.lineStop 1 false) (fed .opening) (fun t => t.feeder.state == .waitPermit
    && t.table.shredQueue == [3]) = true := by decide
theorem test_stop_while_passing : ends (.lineStop 1 true) (fed .passing) (fun t => t.feeder.jam == some .stop
    && t.arb.queue == [⟨srcFeedJam, 2, 100, some 3, some (.jam .stop), 0⟩]) = true := by decide

theorem test_meets_ClearLine : running.line.state = .run ∧ (inLine .hold running).line.state = .hold
    ∧ (inLine .initial (having .queued)).line.state = .initial ∧ (inLine .stop running).line.state = .stop
    ∧ running.feeder.state = .idle ∧ (∀ n, running.fitted n = true → (running.station n).state = .idle ∨ (running.station n).state = .faulted)
    ∧ ¬(waiting.feeder.state = .idle) := by decide
theorem test_clear_line : ends (.clearLine 1) (inLine .stop (having .queued)) (fun t => answered t == [0, 0] && t.record 3 == none
    && t.line.state == .initial) = true := by decide
theorem test_clear_line_busy : ends (.clearLine 1) (inLine .stop waiting) (fun t => answered t == [34, 0]) = true := by decide

/-! ### Atmosphere and timing -/

/-- TRIPPED, with latest readings. -/
def tripped (o2 : Int) : State := { air .tripped none running with
  atm := { (air .tripped none running).atm with
    tripCauses := some ⟨false, true, false⟩, latest := some ⟨o2, 0, .ok, .ok⟩ } }
theorem test_meets_DrainsHoldAndTripReset_trip : running.atm.state ≠ .tripped ∧ (tripped 600).atm.state = .tripped
    ∧ (∃ r, (tripped 600).atm.latest = some r ∧ r.o2 ≤ ((tripped 600).item iLInert : Int) ∧ r.lfl ≤ ((tripped 600).item iLFeed : Int)
      ∧ r.o2Status = .ok ∧ r.lflStatus = .ok) ∧ ((tripped 600).item iLInert : Int) < 601 :=
  ⟨by decide, by decide, ⟨⟨600, 0, .ok, .ok⟩, by decide⟩, by decide⟩
theorem test_trip_reset : ends (.tripReset 1) (tripped 600) (fun t => t.atm.state == .recovering && t.atm.tripCauses == none) = true := by
  decide
theorem test_trip_reset_refused : ends (.tripReset 1) (tripped 601) (fun t => answered t == [36, 0]) = true := by decide
theorem test_hold_on : ends (.inertHoldOn 1) running (fun t => t.atm.hostHold) = true := by decide
theorem test_hold_off : ends (.inertHoldOff 1) (demanded running) (fun t => !t.atm.hostHold) = true := by decide

/-- A pass in progress, a tick pass or not. -/
def passing (marked : Bool) (s : State) : State := { s with scan := { s.scan with pass := some ⟨84, marked, []⟩ } }
theorem test_meets_GroupBPassCompletion : running.scan.pass = none ∧ (passing true running).scan.pass = some ⟨84, true, []⟩
    ∧ 0 ≤ ((300 : Nat) : Int) * ((400 : Int) - (400 : Nat)) ∧ ((300 : Nat) : Int) * ((399 : Int) - (400 : Nat)) < 0 := by decide
/-- Raw readings of an inert housing, the LFL high. -/
def raws (o2 lfl : Raw) : Vector Raw 8 := #v[o2, lfl, 20000, 100, 1, 1, 1, 1]
theorem test_pass_trips : ends (.groupBPassCompletion (raws 10486 60000) [] false) (passing false running) (fun t =>
    t.atm.state == .tripped && t.atm.tripCauses == some ⟨true, false, false⟩ && t.pwm.buffer == 1000 && t.scan.pass == none) = true := by
  decide
theorem test_tick_left_apart : ends (.groupBPassCompletion (raws 10486 1) [] true) (passing true running) (fun t =>
    t.foam.tickDue == some ⟨none, .ok, 8⟩ && (t.channel 8).value == 400 && t.atm.state == .air) = true := by decide
/-- R124: a level that changed after the pass sampled it stands; the operand of another input is its level (log 6). -/
theorem test_pass_keeps_later_levels : ends (.groupBPassCompletion (raws 10486 1) [] false) { running with
    scan := { running.scan with pass := some ⟨84, false, [10486]⟩ } } (fun t =>
      t.pins.analog[8] == 0 && t.pins.analog[9] == 1) = true := by decide
/-- R91: at the pass that ends the copied T_nf, F 0 is below F_min. -/
theorem test_no_flow :
    let s := { tripped 600 with atm := { (tripped 600).atm with highDutyStart := some 40, highDutyLength := some 60 } }
    s.atmospherePass.atm.noFlow = true ∧ s.atmospherePass.arb.sources[srcNoFlow].lastValue = some (.number 0) := by decide
theorem test_meets_NitrogenSupervision :
    (∃ x : Flow, x.previous = none) ∧ (∃ x : Flow, x.latest = some 90 ∧ x.previous = some 90)
    ∧ ¬(5000 < ((5000 : Time) - 0).toNat) ∧ 5000 < ((5001 : Time) - 0).toNat
    ∧ running.atmospherePass.atm.duty < 500 ∧ 500 ≤ (tripped 600).atmospherePass.atm.duty ∧ (tripped 600).atm.highDutyStart = none :=
  ⟨⟨flowReset, rfl⟩, ⟨{ flowReset with latest := some 90, previous := some 90 }, rfl, rfl⟩, by decide, by decide, by decide,
    by decide, by decide⟩
/-- R131: two channels in fault; an unfitted station's oil cup is not counted. -/
theorem test_meets_ChannelFault : (reads 14 0 .faultLow (reads 8 0 .faultHigh running)).firstFault = some 8
    ∧ (reads 14 0 .faultLow running).firstFault = none ∧ running.fitted4 = false := by decide
theorem test_meets_Outputs : running.line.state ≠ .stop ∧ running.line.emergencyMark = false ∧ running.shredderPermitOut = true
    ∧ (queued 1 1 arbReset).noticeWaiting = true ∧ (queued 1 0 arbReset).noticeWaiting = false := by decide
theorem test_meets_Outputs_consistent : running.tableLaw := by decide
theorem test_meets_Outputs_stations : (∀ n : StationNo, (running.station n).law) ∧ running.bindingLaw := by decide
theorem test_meets_Outputs_feeder : running.feederLaw ∧ (∀ n : StationNo, running.fitted n = false → (running.station n).state = .idle)
    ∧ (running.atm.tripCauses.isSome ↔ running.atm.state = .tripped) := by decide

theorem test_meets_TripAtAPass :
    (tripped 600).atm.state = .tripped ∧ running.atm.state ≠ .tripped ∧ (running.item iLTripLFL : Int) < 401
    ∧ ¬(running.item iLTripLFL : Int) < 400 ∧ (gases 0 401 .ok (fed .passing)).feeder.state = .passing
    ∧ (gases 0 401 .ok (fed .opening)).table.feeding = some 3 ∧ (window 2 100).table.openSet = [3]
    ∧ (window 2 100).table.feeding ≠ some 3 ∧ (demanded running).atm.hostHold = true ∧ (running.channel 8).status ≠ .ok := by decide
theorem test_trip_in_passing : (gases 0 401 .ok (fed .passing)).atmospherePass.feeder.jam = some .trip
    ∧ (gases 0 400 .ok (fed .passing)).atmospherePass.atm.state ≠ .tripped := by decide
theorem test_trip_flags_windows :
    (((gases 0 401 .ok (window 2 100)).atmospherePass.record 3).any fun r => r.flags.tripDuringWindow) = true := by decide

/-- The states a pass leaves without a trip, and a hold that has just run its length. -/
theorem test_meets_AtmosphereTransitions_air :
    (gases 600 201 .ok running).atm.state = .air ∧ (gases 600 201 .ok running).atmospherePass.atm.state ≠ .tripped
    ∧ (gases 600 200 .ok (demanded running)).atmospherePass.atm.demand = true
    ∧ (gases 600 200 .ok running).atmospherePass.atm.demand = false := by decide
theorem test_meets_AtmosphereTransitions_hold :
    let s := gases 600 200 .ok (demanded (air .inerting (some 40) running))
    s.atm.state = .inerting ∧ s.atmospherePass.atm.state = .inert ∧ s.atm.holdLength.getD 0 ≤ (s.clock - 40).toNat
    ∧ (s.channel 8).value ≤ (s.item iLInert : Int) ∧ (s.channel 9).value ≤ (s.item iLFeed : Int)
    ∧ (gases 600 200 .ok (demanded (air .inerting none running))).atmospherePass.atm.holdStart = some 100
    ∧ (gases 600 200 .ok (demanded (air .inerting (some 41) running))).atmospherePass.atm.state = .inerting
    ∧ (gases 601 200 .ok (demanded (air .inerting (some 40) running))).atmospherePass.atm.holdStart = none := by decide
theorem test_meets_AtmosphereTransitions_inert :
    (gases 601 200 .ok (demanded (air .inert none running))).atmospherePass.atm.state = .inerting
    ∧ (gases 601 200 .ok (demanded (air .inert none running))).atmospherePass.atm.marginLost = true
    ∧ (gases 601 200 .ok (air .inert none running)).atmospherePass.atm.state = .air
    ∧ (gases 600 200 .ok (demanded (air .inert none running))).atmospherePass.atm.state = .inert := by decide
theorem test_meets_AtmosphereTransitions_recovering :
    (gases 600 200 .ok (demanded (air .recovering (some 40) running))).atmospherePass.atm.state = .inert
    ∧ (gases 600 200 .ok (air .recovering (some 40) running)).atmospherePass.atm.state = .air
    ∧ (gases 600 200 .faultLow (air .recovering (some 40) running)).atmospherePass.atm.holdStart = none
    ∧ (gases 600 200 .ok (air .recovering none running)).atmospherePass.atm.holdStart = some 100 := by decide

/-- The events of the Timing Unit as they fall due. -/
def atPeriod (k : Nat) : State := { running with period := { nextDeadline := 100, lastExpiry := none, postscaler := k } }
def atPwm (start : Time) (active : Nat) : State := { running with pwm := { start := start, length := 100, active := active, buffer := 300, purge := true } }
/-- Three edges of four counted. -/
def fourthEdge : State := { running with flow := { running.flow with edges := 3 } }
theorem test_meets_TimingEvents :
    running.flow.edges + 1 ≠ running.item iDivider ∧ fourthEdge.flow.edges + 1 = fourthEdge.item iDivider
    ∧ (atPeriod 39).clock = (atPeriod 39).period.nextDeadline ∧ (atPeriod 39).period.postscaler + 1 = (atPeriod 39).item iK
    ∧ ((atPwm 0 300).clock - (atPwm 0 300).pwm.start).toNat = (atPwm 0 300).pwm.length
    ∧ (atPwm 70 300).pwm.purge = true
    ∧ ((atPwm 70 300).clock - (atPwm 70 300).pwm.start).toNat = (atPwm 70 300).pwm.active * (atPwm 70 300).pwm.length / 1000
    ∧ (atPwm 70 300).pwm.active * (atPwm 70 300).pwm.length / 1000 < (atPwm 70 300).pwm.length := by decide
theorem test_period_marks : ends .atmospherePeriodExpiry (atPeriod 39) (fun t => t.period.postscaler == 0
    && t.scan.pass == some ⟨100, true, []⟩ && t.period.nextDeadline == 350) = true := by decide
theorem test_pwm_period : ends .pwmPeriodEnd (atPwm 0 300) (fun t => t.pwm == ⟨100, 1000, 300, 300, true⟩) = true := by decide
theorem test_purge_off : ends .purgeOnTimeEnd (atPwm 70 300) (fun t => !t.pwm.purge) = true := by decide
theorem test_flow_capture : ends .flowEdge fourthEdge (fun t => t.flow.latest == some 100 && t.flow.unused) = true := by decide

/-! ### Foam gas attribution and configuration -/

theorem test_meets_TickArithmetic :
    threeWindows.table.openSet.Nodup ∧ (threeWindows.table.openSet.map threeWindows.expectedAt).sum = 12000
    ∧ threeWindows.table.openSet.head? = some 0 ∧ threeWindows.table.openSet.head? ≠ some 2
    ∧ (∃ f : Foam, f.baseline = none ∧ f.drain ≠ .ended) ∧ (∃ f : Foam, f.baseline = none ∧ f.drain = .ended)
    ∧ (∃ f : Foam, f.baseline = some 100 ∧ f.drain = .active) ∧ (∃ f : Foam, f.baseline = some 100 ∧ f.drain ≠ .active ∧ f.debt = 5) :=
  ⟨by decide, by decide, by decide, by decide, ⟨foamReset, by decide⟩, ⟨{ foamReset with drain := .ended }, by decide⟩,
    ⟨{ foamReset with baseline := some 100, drain := .active }, by decide⟩, ⟨{ foamReset with baseline := some 100, debt := 5 }, by decide⟩⟩
/-- R95: seven values are a gap; eight of 10 with a mean of 9.5 round up. -/
theorem test_meets_TickArithmetic_reading :
    Channel.vesselReading { channelReset 10 with status := .ok, ring := List.replicate 7 10 } = none
    ∧ Channel.vesselReading { channelReset 10 with status := .noData, ring := List.replicate 8 10 } = none
    ∧ Channel.vesselReading { channelReset 10 with status := .ok, ring := [9, 10, 9, 10, 9, 10, 9, 10] } = some 10
    ∧ Channel.vesselReading { channelReset 10 with status := .ok, ring := List.replicate 8 (-5) } = some 0 := by decide
theorem test_drain_account :
    (Foam.fix { foamReset with drain := .ended, drainStart := some 900 } (some 200)).drained = 700
    ∧ (Foam.fix { foamReset with drain := .ended, drainStart := some 100 } (some 200)).drained = 0 := by decide

theorem test_meets_TickOnAMember : (window 1 100).foam.tickDue = some ⟨none, .noData, 0⟩ ∧ 3 ∈ (window 1 100).table.openSet
    ∧ (window 1 100).record 3 = some { cabinet .shredding with ticks := some 1 }
    ∧ (window 1 0).record 3 = some { cabinet .shredding with ticks := some 1, expected := 0 } := by
  decide
theorem test_meets_TickOnAMember_law : (window 1 100).tableLaw := by decide
theorem test_meets_TickOnAMember_law_open : (window 2 100).tableLaw := by decide
theorem test_meets_TickOnAMember_law_noFoam : (window 1 0).tableLaw := by decide
/-- A window of E 100 with a gain of 70 closes ADEQUATE at a limit of 700. -/
theorem test_window_closes : ends .attributionTick (ticking (some 1070) 1 100) (fun t =>
      t.table.closedList == [3] && t.totals[totCaptured].value == 70
      && (t.record 3).any fun r => r.gamma == some 700 && r.foamVerdict == some .adequate && r.foam == 70) = true := by decide
theorem test_window_counts : ends .attributionTick (window 2 100) (fun t => t.table.openSet == [3] && t.foam.baseline == none
    && (t.record 3).any fun r => r.ticks == some 1 && r.flags.sensorGap) = true := by decide
theorem test_meets_TickAmounts :
    let s := ticking (some 1070) 1 100
    s.foam.tickDue = some ⟨some 1070, .noData, 0⟩ ∧ s.table = (window 1 100).table ∧ (s.foam.fix (some 1070)).dEff = 70
    ∧ s.totals[totCaptured].value + 70 ≤ 4294967295 ∧ s.totals[totAttributed].value + 70 ≤ 4294967295
    ∧ s.totals[totPool].value + 70 ≤ 4294967295 ∧ s.totals[totDrained].value + 0 ≤ 4294967295 := by decide

/-- A drain state. -/
def draining (d : DrainState) : State := { running with foam := { running.foam with drain := d, baseline := some 500 } }
theorem test_meets_DrainsHoldAndTripReset_drain : (draining .active).foam.drain = .active ∧ (draining .noDrain).foam.drain = .noDrain
    ∧ (draining .ended).foam.drain = .ended ∧ (draining .ended).foam.drain ≠ .active := by decide
theorem test_drain_begins : ends (.drainBegin 1) (draining .noDrain) (fun t => t.foam.drain == .active && t.foam.drainStart == some 500) = true := by
  decide
theorem test_drain_ends : ends (.drainEnd 1) (draining .active) (fun t => t.foam.drain == .ended && t.foam.baseline == none) = true := by
  decide
theorem test_drain_end_refused : ends (.drainEnd 1) (draining .ended) (fun t => answered t == [33, 0]) = true := by decide

theorem test_meets_SetConfig : (0 : Byte).toNat = 0 ∧ 44 < (45 : Byte).toNat ∧ (34 : Byte).toNat = 34 ∧ (2 : Word).toNat ≠ 1
    ∧ (34 : Byte).toNat = iDivider.val + 1 ∧ (16 : Word).toNat = 16 ∧ (31 : Byte).toNat = iPa.val + 1 ∧ (32 : Byte).toNat = iK.val + 1
    ∧ (20 : Byte).toNat = iVHigh.val + 1 ∧ (1 : Byte).toNat = iTClamp.val + 1 ∧ (44 : Byte).toNat = (43 : Item).val + 1
    ∧ Period.lastExpiry { running.period with lastExpiry := some 100 } = some running.clock
    ∧ running.period.lastExpiry = none ∧ running.period.lastExpiry ≠ some running.clock
    ∧ ((100 : Time) - running.period.lastExpiry.getD 0).toNat = 100 := by decide
/-- R84: L_inert above L_trip less 1 is taken as that, with CLAMPED. -/
theorem test_limit_order : ends (.setConfig 1 22 900) running (fun t => (t.item iLInert == t.item iLTrip - 1)
    && (answered t).take 3 == [0, 1, 22]) = true := by decide
theorem test_divider_2_refused : ends (.setConfig 1 34 2) running (fun t => answered t == [18, 0]) = true := by decide

theorem test_meets_SetChannel : 15 < (16 : Byte).toNat ∧ (15 : Byte).toNat = (15 : ChannelNo).val
    ∧ (-10000000 : Int) = max (-10000000) (min 10000000 (-10000001)) := by decide
/-- 7.9: A3 with low 900 and high 600. -/
theorem test_high_raised_to_low : ends (.setChannel 1 3 0 10000 900 600 20) running (fun t => (answered t).take 2 == [0, 1]
    && (t.channel 3).high == 900 && (t.channel 3).value == 900) = true := by decide

end Sys2Proof.Tests
end

section
/-! The agreement of the blocks (`State.consistent`) taken apart: the records and their collections, the stations and
their bonds, the Feeder; and what a record that moves between phases does to each part. -/

namespace Sys2Proof.Machine

/-! ### The parts of the agreement -/

/-- A record by itself, in its slot (R2, R4). -/
def Record.okAt (i : Slot) (r : Record) : Prop :=
  r.slot = i ∧ r.ident ≠ 0 ∧ r.attempts ≤ 2 ∧ r.used.length ≤ r.attempts
    ∧ (r.bound.isSome ↔ r.phase = .extracting) ∧ (r.ticks.isSome ↔ r.phase = .shredding)

/-- A list of slots holds the records of a phase, each once. -/
def State.Collects (s : State) (l : List Slot) (p : Phase) : Prop :=
  l.Nodup ∧ ∀ i, i ∈ l ↔ s.phaseAt i = some p

/-- `State.tableLaw` with its parts named. -/
structure State.Filed (s : State) : Prop where
  ok : ∀ i r, s.record i = some r → r.okAt i
  unique : ∀ i j r q, s.record i = some r → s.record j = some q → r.ident = q.ident → i = j
  shred : s.Collects s.table.shredQueue .shredWait
  opened : s.Collects s.table.openSet .shredding
  closed : s.Collects s.table.closedList .closed
  feeding : s.Collects s.table.feeding.toList .feeding
  room : s.table.openSet.length + s.table.feeding.toList.length ≤ 8

theorem State.collects_toList {s : State} {o : Option Slot} {p : Phase} :
    s.Collects o.toList p ↔ ∀ i, o = some i ↔ s.phaseAt i = some p := by
  cases o <;> simp [State.Collects, eq_comm]

theorem State.tableLaw_iff (s : State) : s.tableLaw ↔ s.Filed := by
  have hlen : s.table.feeding.toList.length = if s.table.feeding.isSome then 1 else 0 := by
    cases s.table.feeding <;> rfl
  constructor
  · rintro ⟨hok, huniq, hsn, hs, hon, ho, hcn, hc, hf, hroom⟩
    exact ⟨hok, fun i j r q hr hq => huniq i j r hr q hq, ⟨hsn, hs⟩, ⟨hon, ho⟩, ⟨hcn, hc⟩,
      State.collects_toList.mpr hf, hlen ▸ hroom⟩
  · rintro ⟨hok, huniq, ⟨hsn, hs⟩, ⟨hon, ho⟩, ⟨hcn, hc⟩, hf, hroom⟩
    exact ⟨hok, fun i j r hr q hq => huniq i j r q hr hq, hsn, hs, hon, ho, hcn, hc,
      State.collects_toList.mp hf, hlen ▸ hroom⟩

/-- Everything of `State.consistent` but the Feeder's own law. -/
structure State.Core (s : State) : Prop where
  filed : s.Filed
  station : ∀ n, (s.station n).law
  bond : s.bindingLaw
  unfitted : ∀ n, s.fitted n = false → (s.station n).state = .idle
  trip : s.atm.tripCauses.isSome ↔ s.atm.state = .tripped

/-- `State.consistent` with its parts named. -/
structure State.Agrees (s : State) : Prop extends s.Core where
  gate : s.feederLaw

theorem State.consistent_iff (s : State) : s.consistent ↔ s.Agrees := by
  constructor
  · rintro ⟨htab, hst, hbond, hgate, hfit, htrip⟩
    exact ⟨⟨s.tableLaw_iff.mp htab, hst, hbond, hfit, htrip⟩, hgate⟩
  · rintro ⟨⟨htab, hst, hbond, hfit, htrip⟩, hgate⟩
    exact ⟨s.tableLaw_iff.mpr htab, hst, hbond, hgate, hfit, htrip⟩

/-! ### What the agreement depends on -/

/-- The parts of the state that the agreement reads are the same. -/
def State.SameParts (s t : State) : Prop :=
  t.table = s.table ∧ t.stations = s.stations ∧ t.feeder = s.feeder ∧ t.fitted4 = s.fitted4
    ∧ t.atm.state = s.atm.state ∧ t.atm.tripCauses = s.atm.tripCauses

theorem State.Filed.of_table {s t : State} (h : s.Filed) (ht : t.table = s.table) : t.Filed := by
  obtain ⟨hok, huniq, hs, ho, hc, hf, hroom⟩ := h
  have hrec : t.record = s.record := by unfold State.record; rw [ht]
  have hph : t.phaseAt = s.phaseAt := by unfold State.phaseAt; rw [hrec]
  constructor <;> simp only [State.Collects, hrec, hph, ht] <;> assumption

theorem State.Core.of_same {s t : State} (h : s.Core) (ht : t.table = s.table) (hs : t.stations = s.stations)
    (hf : t.fitted4 = s.fitted4) (ha : t.atm.state = s.atm.state) (hc : t.atm.tripCauses = s.atm.tripCauses) : t.Core := by
  have hrec : t.record = s.record := by unfold State.record; rw [ht]
  have hst : t.station = s.station := by unfold State.station; rw [hs]
  have hfit : t.fitted = s.fitted := by unfold State.fitted State.fittedCount; rw [hf]
  obtain ⟨hfiled, hlaw, hbond, hunf, htrip⟩ := h
  refine ⟨hfiled.of_table ht, ?_, ?_, ?_, ?_⟩
  · rwa [hst]
  · rwa [State.bindingLaw, hrec, hst]
  · rwa [hfit, hst]
  · rwa [ha, hc]

theorem State.Agrees.of_same {s t : State} (h : s.Agrees) (hst : s.SameParts t) : t.Agrees := by
  obtain ⟨ht, hs, hf, h4, ha, hc⟩ := hst
  refine ⟨h.toCore.of_same ht hs h4 ha hc, ?_⟩
  rw [State.feederLaw, ht, hf]
  exact h.gate

/-! ### Collections and moves -/

/-- One slot's content is replaced by `q`, the other slots are as before. -/
def State.Refiled (s t : State) (i : Slot) (q : Option Record) : Prop :=
  ∀ j, t.record j = if i = j then q else s.record j

theorem State.Refiled.phaseAt {s t : State} {i : Slot} {q : Option Record} (h : s.Refiled t i q) (j : Slot) :
    t.phaseAt j = if i = j then q.map Record.phase else s.phaseAt j := by
  unfold State.phaseAt
  rw [h j]
  split <;> rfl

theorem State.modRecord_refiled (s : State) (i : Slot) (f : Record → Record) :
    s.Refiled (s.modRecord i f) i ((s.record i).map f) := fun j => s.modRecord_record i j f

theorem State.put_refiled {s t : State} {i : Slot} {q : Option Record} (h : t.table.slots = (s.table.put i q).slots) :
    s.Refiled t i q := by
  intro j
  unfold State.record
  rw [h, Table.put_slots]

section Moves

variable {s t : State} {i : Slot} {q : Option Record} {l : List Slot} {p : Phase}

/-- A collection is as it was where the move neither enters nor leaves its phase. -/
theorem State.Collects.keep (h : s.Collects l p) (hm : s.Refiled t i q)
    (hp : q.map Record.phase = some p ↔ s.phaseAt i = some p) : t.Collects l p := by
  refine ⟨h.1, fun j => ?_⟩
  rw [h.2 j, hm.phaseAt j]
  split
  case isTrue hij => subst hij; exact hp.symm
  case isFalse => rfl

/-- A slot that leaves the phase leaves the collection. -/
theorem State.Collects.remove (h : s.Collects l p) (hm : s.Refiled t i q) (hp : q.map Record.phase ≠ some p) :
    t.Collects (l.filter (· != i)) p := by
  refine ⟨h.1.filter _, fun j => ?_⟩
  rw [List.mem_filter, h.2 j, hm.phaseAt j]
  by_cases hij : i = j
  · subst hij; simp [hp]
  · simp [hij, Ne.symm hij]

/-- The head of a collection leaves it as it leaves the phase. -/
theorem State.Collects.tail (h : s.Collects (i :: l) p) (hm : s.Refiled t i q) (hp : q.map Record.phase ≠ some p) :
    t.Collects l p := by
  have hi : i ∉ l := (List.nodup_cons.mp h.1).1
  have hl : (i :: l).filter (· != i) = l := by
    simpa using fun a ha => ne_of_mem_of_not_mem ha hi
  exact hl ▸ h.remove hm hp

/-- A slot that enters the phase joins the collection at its head. -/
theorem State.Collects.cons (h : s.Collects l p) (hm : s.Refiled t i q) (hp : q.map Record.phase = some p)
    (hs : s.phaseAt i ≠ some p) : t.Collects (i :: l) p := by
  have hi : i ∉ l := fun hmem => hs ((h.2 i).mp hmem)
  refine ⟨List.nodup_cons.mpr ⟨hi, h.1⟩, fun j => ?_⟩
  rw [List.mem_cons, h.2 j, hm.phaseAt j]
  by_cases hij : i = j
  · subst hij; simp [hp]
  · simp [hij, Ne.symm hij]

theorem State.Collects.perm {m : List Slot} (h : s.Collects l p) (hp : m.Perm l) : s.Collects m p :=
  ⟨hp.nodup_iff.mpr h.1, fun i => hp.mem_iff.trans (h.2 i)⟩

/-- A slot that enters the phase joins the collection at its tail. -/
theorem State.Collects.snoc (h : s.Collects l p) (hm : s.Refiled t i q) (hp : q.map Record.phase = some p)
    (hs : s.phaseAt i ≠ some p) : t.Collects (l ++ [i]) p :=
  (h.cons hm hp hs).perm (by simp)

end Moves

/-! ### The records after a move -/

/-- The records of a state in which one record was replaced are well formed, and no two share an Ident. -/
theorem State.Filed.records {s t : State} {i : Slot} {r q : Record} (h : s.Filed) (hr : s.record i = some r)
    (hm : s.Refiled t i (some q)) (hid : q.ident = r.ident) (hq : q.okAt i) :
    (∀ j p, t.record j = some p → p.okAt j)
      ∧ ∀ j k p p', t.record j = some p → t.record k = some p' → p.ident = p'.ident → j = k := by
  have ident_of : ∀ j p, t.record j = some p → ∃ p', s.record j = some p' ∧ p'.ident = p.ident := by
    intro j p hp
    rw [hm j] at hp
    split at hp
    case isTrue hij => subst hij; cases hp; exact ⟨r, hr, hid.symm⟩
    case isFalse => exact ⟨p, hp, rfl⟩
  constructor
  · intro j p hp
    rw [hm j] at hp
    split at hp
    case isTrue hij => subst hij; cases hp; exact hq
    case isFalse => exact h.ok j p hp
  · intro j k p p' hp hp' he
    obtain ⟨a, ha, hae⟩ := ident_of j p hp
    obtain ⟨b, hb, hbe⟩ := ident_of k p' hp'
    exact h.unique j k a b ha hb (by rw [hae, hbe, he])

end Sys2Proof.Machine
end

section
/-! The moves of a record between the phases (R9 to R20), each with the collections it leaves and joins: what the table's
agreement needs of it and keeps. -/

namespace Sys2Proof.Machine

/-! ### Moves inside and outside the collections -/

@[simp] theorem Table.mod_shredQueue (t : Table) (i : Slot) (f : Record → Record) :
    (t.mod i f).shredQueue = t.shredQueue := rfl
@[simp] theorem Table.mod_openSet (t : Table) (i : Slot) (f : Record → Record) : (t.mod i f).openSet = t.openSet := rfl
@[simp] theorem Table.mod_closedList (t : Table) (i : Slot) (f : Record → Record) :
    (t.mod i f).closedList = t.closedList := rfl
@[simp] theorem Table.mod_feeding (t : Table) (i : Slot) (f : Record → Record) : (t.mod i f).feeding = t.feeding := rfl

theorem State.mod_refiled {s t : State} {i : Slot} {r : Record} (f : Record → Record) (hr : s.record i = some r)
    (h : t.table.slots = (s.table.mod i f).slots) : s.Refiled t i (some (f r)) := by
  have hs : s.table.slots[i] = some r := hr
  exact State.put_refiled (by rw [h, Table.mod, hs]; rfl)

/-- A phase whose records stand in no collection. -/
def Phase.loose : Phase → Bool
  | .queued | .extracting | .extracted => true
  | _ => false

theorem Phase.ne_of_loose {p q : Phase} (hp : p.loose = true) (hq : q.loose = false) : p ≠ q := by
  rintro rfl; simp [hp] at hq

/-- A change of one record that keeps its Ident and its phase, or moves it between phases without collection. -/
theorem State.Filed.modRecord {s : State} {i : Slot} {f : Record → Record} (h : s.Filed)
    (hf : ∀ r, s.record i = some r → (f r).ident = r.ident ∧ (f r).okAt i
      ∧ ((f r).phase = r.phase ∨ (f r).phase.loose = true ∧ r.phase.loose = true)) : (s.modRecord i f).Filed := by
  have hm := s.modRecord_refiled i f
  cases hr : s.record i with
  | none =>
    have keep {l p} (hc : s.Collects l p) : (s.modRecord i f).Collects l p := hc.keep hm (by simp [hr, State.phaseAt])
    have hrec : ∀ j, (s.modRecord i f).record j = s.record j := by
      intro j; rw [hm j]; split
      case isTrue hij => subst hij; simp [hr]
      case isFalse => rfl
    exact ⟨fun j p hp => h.ok j p (hrec j ▸ hp), fun j k p p' hp hp' => h.unique j k p p' (hrec j ▸ hp) (hrec k ▸ hp'),
      keep h.shred, keep h.opened, keep h.closed, keep h.feeding, h.room⟩
  | some r =>
    obtain ⟨hid, hok, hph⟩ := hf r hr
    rw [hr] at hm
    have keep {l p} (hc : s.Collects l p) (hp : p.loose = false) : (s.modRecord i f).Collects l p := by
      refine hc.keep hm ?_
      rcases hph with hph | ⟨hnew, hold⟩
      · simp [hr, State.phaseAt, hph]
      · simp [hr, State.phaseAt, Phase.ne_of_loose hnew hp, Phase.ne_of_loose hold hp]
    obtain ⟨hoks, huniq⟩ := h.records hr hm hid hok
    exact ⟨hoks, huniq, keep h.shred rfl, keep h.opened rfl, keep h.closed rfl, keep h.feeding rfl, h.room⟩

/-- A record as it was by all that the agreement reads of it. -/
def Record.Same (r q : Record) : Prop :=
  q.slot = r.slot ∧ q.ident = r.ident ∧ q.attempts = r.attempts ∧ q.used = r.used ∧ q.bound = r.bound
    ∧ q.phase = r.phase ∧ q.ticks.isSome = r.ticks.isSome

theorem Record.Same.okAt {r q : Record} {i : Slot} (h : r.Same q) (hr : r.okAt i) : q.okAt i := by
  obtain ⟨h1, h2, h3, h4, h5, h6, h7⟩ := h
  unfold Record.okAt at *
  rwa [h1, h2, h3, h4, h5, h6, h7]

theorem State.Filed.modRecord_same {s : State} {i : Slot} {f : Record → Record} (h : s.Filed)
    (hf : ∀ r : Record, r.Same (f r)) : (s.modRecord i f).Filed := by
  refine h.modRecord fun r hr => ⟨?_, (hf r).okAt (h.ok i r hr), .inl ?_⟩ <;> obtain ⟨_, h2, _, _, _, h6, _⟩ := hf r
  · exact h2
  · exact h6

/-! ### The moves through the shredder (R12, R14 to R16) -/

section Moves

variable {s : State} {i : Slot} {r : Record}

/-- A record not yet EXTRACTED to FEEDING has the well-formedness of another such phase. -/
theorem Record.okAt.move {q : Record} (h : r.okAt i) (hk : q.slot = r.slot ∧ q.ident = r.ident ∧ q.attempts = r.attempts
    ∧ q.used = r.used) (hb : q.bound.isSome ↔ q.phase = .extracting) (ht : q.ticks.isSome ↔ q.phase = .shredding) :
    q.okAt i := by
  obtain ⟨hslot, hid, hatt, hused, -, -⟩ := h
  obtain ⟨h1, h2, h3, h4⟩ := hk
  exact ⟨h1 ▸ hslot, h2 ▸ hid, h3 ▸ hatt, h3 ▸ h4 ▸ hused, hb, ht⟩

theorem State.Filed.unbound (h : s.Filed) (hr : s.record i = some r) (hp : r.phase ≠ .extracting) : r.bound = none := by
  obtain ⟨-, -, -, -, hb, -⟩ := h.ok i r hr
  simpa using mt hb.mp hp

theorem State.Filed.noTicks (h : s.Filed) (hr : s.record i = some r) (hp : r.phase ≠ .shredding) : r.ticks = none := by
  obtain ⟨-, -, -, -, -, ht⟩ := h.ok i r hr
  simpa using mt ht.mp hp

theorem State.phaseAt_some (hr : s.record i = some r) : s.phaseAt i = some r.phase := by
  simp [State.phaseAt, hr]

/-- A slot in a collection holds a record of its phase. -/
theorem State.Collects.record {l : List Slot} {p : Phase} (h : s.Collects l p) (hi : i ∈ l) :
    ∃ r, s.record i = some r ∧ r.phase = p := by
  simpa [State.phaseAt] using (h.2 i).mp hi

theorem State.Filed.feeding_record (h : s.Filed) (hf : s.table.feeding = some i) :
    ∃ r, s.record i = some r ∧ r.phase = .feeding :=
  h.feeding.record (by simp [hf])

/-- RELEASE TO SHRED (R12). -/
theorem State.Filed.release (h : s.Filed) (hr : s.record i = some r) (hp : r.phase = .extracted) :
    (s.release i).Filed := by
  have hm : s.Refiled (s.release i) i (some { r with phase := .shredWait, releaseOrder := some s.table.relCtr }) :=
    State.mod_refiled (fun r => { r with phase := .shredWait, releaseOrder := some s.table.relCtr }) hr rfl
  have hph := State.phaseAt_some hr
  have hok : (Record.okAt i { r with phase := .shredWait, releaseOrder := some s.table.relCtr }) :=
    (h.ok i r hr).move ⟨rfl, rfl, rfl, rfl⟩ (by simp [h.unbound hr (by simp [hp])]) (by simp [h.noTicks hr (by simp [hp])])
  obtain ⟨hoks, huniq⟩ := h.records hr hm rfl hok
  exact ⟨hoks, huniq, h.shred.snoc hm rfl (by simp [hph, hp]), h.opened.keep hm (by simp [hph, hp]),
    h.closed.keep hm (by simp [hph, hp]), h.feeding.keep hm (by simp [hph, hp]), h.room⟩

/-- The head of the shred queue taken into FEEDING (R14). -/
theorem State.Filed.takeHead (h : s.Filed) (hf : s.table.feeding = none) (ho : s.table.openSet.length < 8) :
    s.takeHead.Filed := by
  cases hq : s.table.shredQueue with
  | nil => simpa [State.takeHead, hq] using h
  | cons i rest =>
    have htake : s.takeHead.table = { s.table.mod i (fun r => { r with phase := .feeding }) with
        shredQueue := rest, feeding := some i } := by simp [State.takeHead, hq]
    have hshred := h.shred
    rw [hq] at hshred
    obtain ⟨r, hr, hp⟩ := hshred.record (i := i) (by simp)
    have hph := State.phaseAt_some hr
    have hm : s.Refiled s.takeHead i (some { r with phase := .feeding }) :=
      State.mod_refiled (fun r => { r with phase := .feeding }) hr (by rw [htake])
    have hok : Record.okAt i { r with phase := .feeding } :=
      (h.ok i r hr).move ⟨rfl, rfl, rfl, rfl⟩ (by simp [h.unbound hr (by simp [hp])]) (by simp [h.noTicks hr (by simp [hp])])
    have hfeed : s.Collects [] .feeding := by simpa [hf] using h.feeding
    obtain ⟨hoks, huniq⟩ := h.records hr hm rfl hok
    refine ⟨hoks, huniq, ?_, ?_, ?_, ?_, ?_⟩ <;> rw [htake]
    · exact hshred.tail hm (by simp)
    · exact h.opened.keep hm (by simp [hph, hp])
    · exact h.closed.keep hm (by simp [hph, hp])
    · exact hfeed.cons hm rfl (by simp [hph, hp])
    · exact ho

/-- The feeding record back at the head of the shred queue (R16). -/
theorem State.Filed.returnToHead (h : s.Filed) : s.returnToHead.Filed := by
  cases hf : s.table.feeding with
  | none => simpa [State.returnToHead, hf] using h
  | some i =>
    have hback : s.returnToHead.table = { s.table.mod i (fun r => { r with phase := .shredWait }) with
        shredQueue := i :: s.table.shredQueue, feeding := none } := by simp [State.returnToHead, hf]
    obtain ⟨r, hr, hp⟩ := h.feeding_record hf
    have hph := State.phaseAt_some hr
    have hm : s.Refiled s.returnToHead i (some { r with phase := .shredWait }) :=
      State.mod_refiled (fun r => { r with phase := .shredWait }) hr (by rw [hback])
    have hok : Record.okAt i { r with phase := .shredWait } :=
      (h.ok i r hr).move ⟨rfl, rfl, rfl, rfl⟩ (by simp [h.unbound hr (by simp [hp])]) (by simp [h.noTicks hr (by simp [hp])])
    have hfeed : s.Collects [i] .feeding := by simpa [hf] using h.feeding
    have hroom := h.room
    obtain ⟨hoks, huniq⟩ := h.records hr hm rfl hok
    refine ⟨hoks, huniq, ?_, ?_, ?_, ?_, ?_⟩ <;> rw [hback]
    · exact h.shred.cons hm rfl (by simp [hph, hp])
    · exact h.opened.keep hm (by simp [hph, hp])
    · exact h.closed.keep hm (by simp [hph, hp])
    · exact hfeed.tail hm (by simp)
    · simpa using (Nat.le_add_right _ _).trans hroom

/-- The record the feed event makes of the feeding one (R15, R103). -/
def Record.fed (r : Record) (t : Time) (ticks : Nat) (byHost : Bool) : Record :=
  ({ r with phase := .shredding, feedTime := some t, ticks := some ticks }).flagIf byHost .feedClearedByHost

theorem State.feedRecord_table (hf : s.table.feeding = some i) (t : Time) (b : Bool) :
    (s.feedRecord t b).table = { s.table.mod i (fun r => r.fed t (s.item iNSettle) b) with
      openSet := s.table.openSet ++ [i], feeding := none } := by
  simp [State.feedRecord, hf, Record.fed]

/-- The feed event's part at the table (R15). -/
theorem State.Filed.feedRecord (h : s.Filed) (t : Time) (b : Bool) : (s.feedRecord t b).Filed := by
  cases hf : s.table.feeding with
  | none => simpa [State.feedRecord, hf] using h
  | some i =>
    have hfed := State.feedRecord_table hf t b
    obtain ⟨r, hr, hp⟩ := h.feeding_record hf
    have hph := State.phaseAt_some hr
    have hm : s.Refiled (s.feedRecord t b) i (some (r.fed t (s.item iNSettle) b)) :=
      State.mod_refiled (fun r => r.fed t (s.item iNSettle) b) hr (by rw [hfed])
    have hok : (r.fed t (s.item iNSettle) b).okAt i :=
      (h.ok i r hr).move ⟨rfl, rfl, rfl, rfl⟩
        (by simp [Record.fed, Record.flagIf, h.unbound hr (by simp [hp])]) (by simp [Record.fed, Record.flagIf])
    have hfeed : s.Collects [i] .feeding := by simpa [hf] using h.feeding
    have hroom := h.room
    have hnew : (r.fed t (s.item iNSettle) b).phase = .shredding := rfl
    obtain ⟨hoks, huniq⟩ := h.records hr hm rfl hok
    refine ⟨hoks, huniq, ?_, ?_, ?_, ?_, ?_⟩ <;> rw [hfed]
    · exact h.shred.keep hm (by simp [hph, hp, hnew])
    · exact h.opened.snoc hm (by simp [hnew]) (by simp [hph, hp])
    · exact h.closed.keep hm (by simp [hph, hp, hnew])
    · exact hfeed.tail hm (by simp [hnew])
    · simpa [hf] using hroom

/-! ### Admission, closing and taking (R8, R18 to R20, R111) -/

/-- The table after a slot was closed. -/
theorem State.closeSlot_table (hr : s.record i = some r) :
    (s.closeSlot i).table = { s.table.put i (some (r.close s.clock)) with
      shredQueue := s.table.shredQueue.filter (· != i)
      openSet := s.table.openSet.filter (· != i)
      closedList := s.table.closedList ++ [i] } := by
  unfold State.closeSlot
  rw [hr]
  show (State.addClose _ _).table = _
  rw [State.addClose_table]
  rfl

/-- The entry of a record to CLOSED (R18, R19). -/
theorem State.Filed.closeSlot (h : s.Filed) (hr : s.record i = some r)
    (hp : r.phase ≠ .extracting ∧ r.phase ≠ .feeding ∧ r.phase ≠ .closed) : (s.closeSlot i).Filed := by
  obtain ⟨hext, hfeed, hclosed⟩ := hp
  have hph := State.phaseAt_some hr
  have hm : s.Refiled (s.closeSlot i) i (some (r.close s.clock)) :=
    State.put_refiled (by rw [State.closeSlot_table hr])
  have hok : (r.close s.clock).okAt i :=
    (h.ok i r hr).move ⟨rfl, rfl, rfl, rfl⟩ (by simp [Record.close, h.unbound hr hext]) (by simp [Record.close])
  have hnew : (r.close s.clock).phase = .closed := rfl
  have hroom := h.room
  obtain ⟨hoks, huniq⟩ := h.records hr hm rfl hok
  refine ⟨hoks, huniq, ?_, ?_, ?_, ?_, ?_⟩ <;> rw [State.closeSlot_table hr]
  · exact h.shred.remove hm (by simp [hnew])
  · exact h.opened.remove hm (by simp [hnew])
  · exact h.closed.snoc hm (by simp [hnew]) (by simp [hph, hclosed])
  · exact h.feeding.keep hm (by simp [hph, hfeed, hnew])
  · have := List.length_filter_le (· != i) s.table.openSet
    show _ + s.table.feeding.toList.length ≤ 8
    simp only
    omega

/-- The admission of a record (R8): its slot was empty and its Ident is new. -/
theorem State.Filed.enrol (h : s.Filed) (hr : s.record i = none) (hok : r.okAt i) (hp : r.phase = .queued)
    (hid : ∀ j q, s.record j = some q → q.ident ≠ r.ident) : (s.enrol i r).Filed := by
  have hm : s.Refiled (s.enrol i r) i (some r) := State.put_refiled rfl
  have hph : s.phaseAt i = none := by simp [State.phaseAt, hr]
  refine ⟨fun j p hj => ?_, fun j k p p' hj hk he => ?_, h.shred.keep hm (by simp [hph, hp]),
    h.opened.keep hm (by simp [hph, hp]), h.closed.keep hm (by simp [hph, hp]), h.feeding.keep hm (by simp [hph, hp]), h.room⟩
  · rw [hm j] at hj
    split at hj
    case isTrue hij => subst hij; cases hj; exact hok
    case isFalse => exact h.ok j p hj
  · rw [hm j] at hj
    rw [hm k] at hk
    split at hj <;> split at hk
    case isTrue.isTrue hij hik => exact hij ▸ hik
    case isTrue.isFalse => cases hj; exact absurd he.symm (hid k p' hk)
    case isFalse.isTrue => cases hk; exact absurd he (hid j p hj)
    case isFalse.isFalse => exact h.unique j k p p' hj hk he

end Moves

end Sys2Proof.Machine
end

section
/-! The take of closed records, and the agreement of stations and appliances (R4, R9, R25): what a bond is, and which
changes of a record or a station leave it. -/

namespace Sys2Proof.Machine

/-! ### The removal of closed records (R20, R111) -/

theorem Table.foldl_put_none_slots (l : List Slot) (t : Table) (j : Slot) :
    (l.foldl (fun t i => t.put i none) t).slots[j] = if j ∈ l then none else t.slots[j] := by
  induction l generalizing t with
  | nil => simp
  | cons i l ih =>
    rw [List.foldl_cons, ih, Table.put_slots]
    by_cases hij : i = j
    · simp [hij]
    · simp [hij, Ne.symm hij]

theorem Table.foldl_put_none (l : List Slot) (t : Table) :
    l.foldl (fun t i => t.put i none) t = { t with slots := (l.foldl (fun t i => t.put i none) t).slots } := by
  induction l generalizing t with
  | nil => rfl
  | cons i l ih => rw [List.foldl_cons, ih]; rfl

theorem State.takeClosed_record (s : State) (tag : Byte) (j : Slot) :
    (s.takeClosed tag).record j = if j ∈ s.table.closedList.take 4 then none else s.record j :=
  Table.foldl_put_none_slots (s.table.closedList.take 4) s.table j

theorem State.takeClosed_table (s : State) (tag : Byte) :
    (s.takeClosed tag).table = { s.table with
      slots := (s.takeClosed tag).table.slots
      closedList := s.table.closedList.drop 4
      saved := some (tag, s.closedHead) } := by
  show ({ List.foldl (fun t i => t.put i none) s.table (s.table.closedList.take 4) with
    closedList := s.table.closedList.drop 4, saved := some (tag, s.closedHead) } : Table) = _
  rw [Table.foldl_put_none]
  rfl

section Take

variable {s : State}

theorem State.takeClosed_phaseAt (s : State) (tag : Byte) (j : Slot) :
    (s.takeClosed tag).phaseAt j = if j ∈ s.table.closedList.take 4 then none else s.phaseAt j := by
  unfold State.phaseAt
  rw [State.takeClosed_record]
  split <;> rfl

/-- A collection of another phase is as before a take. -/
theorem State.Filed.takeClosed_keep {l : List Slot} {p : Phase} (h : s.Filed) (hc : s.Collects l p) (hp : p ≠ .closed)
    (tag : Byte) : (s.takeClosed tag).Collects l p := by
  refine ⟨hc.1, fun j => ?_⟩
  rw [hc.2 j, State.takeClosed_phaseAt]
  split
  case isTrue hj => simp [(h.closed.2 j).mp (List.mem_of_mem_take hj), Ne.symm hp]
  case isFalse => rfl

theorem State.Filed.takeClosed (h : s.Filed) (tag : Byte) : (s.takeClosed tag).Filed := by
  have left {j r} (hj : (s.takeClosed tag).record j = some r) : s.record j = some r := by
    rw [State.takeClosed_record] at hj
    split at hj
    · cases hj
    · exact hj
  have hclosed : (s.takeClosed tag).Collects (s.table.closedList.drop 4) .closed := by
    have hnd : (s.table.closedList.take 4 ++ s.table.closedList.drop 4).Nodup := by
      rw [List.take_append_drop]; exact h.closed.1
    refine ⟨hnd.of_append_right, fun j => ?_⟩
    have hmem : j ∈ s.table.closedList ↔ j ∈ s.table.closedList.take 4 ∨ j ∈ s.table.closedList.drop 4 := by
      rw [← List.mem_append, List.take_append_drop]
    have hdis : j ∈ s.table.closedList.take 4 → j ∉ s.table.closedList.drop 4 := fun h4 hd =>
      List.disjoint_of_nodup_append hnd h4 hd
    rw [State.takeClosed_phaseAt]
    split
    case isTrue hj => simp [hdis hj]
    case isFalse hj => rw [← h.closed.2 j, hmem]; simp [hj]
  have htab := s.takeClosed_table tag
  refine ⟨fun j r hj => h.ok j r (left hj), fun i j r q hr hq => h.unique i j r q (left hr) (left hq), ?_, ?_, ?_, ?_, ?_⟩ <;>
    rw [htab]
  · exact h.takeClosed_keep h.shred (by simp) tag
  · exact h.takeClosed_keep h.opened (by simp) tag
  · exact hclosed
  · exact h.takeClosed_keep h.feeding (by simp) tag
  · exact h.room

end Take

/-! ### Bonds -/

section Bonds

variable {s t : State} {i : Slot} {r : Record} {n : StationNo}

/-- A change that leaves every bond as it is: each station keeps its slot and stays pierced, each bound record keeps
its station, is still EXTRACTING, and has an attempt left while its station is not pierced. -/
theorem State.bond_keep (h : s.bindingLaw) (hst : ∀ n, (t.station n).bound = (s.station n).bound
      ∧ ((t.station n).pierced = false → (s.station n).pierced = false))
    (hrec : ∀ j q, t.record j = some q → ∀ n, q.bound = some n → ∃ r, s.record j = some r ∧ r.bound = some n)
    (hback : ∀ j r, s.record j = some r → ∀ n, r.bound = some n → r.phase = .extracting → ∃ q, t.record j = some q
      ∧ q.phase = .extracting ∧ q.bound = some n
      ∧ ((t.station n).pierced = false → r.attempts < 2 → q.attempts < 2)) : t.bindingLaw := by
  obtain ⟨hfwd, hbwd⟩ := h
  refine ⟨fun n i hi => ?_, fun j q hq n hn => ?_⟩
  · rw [(hst n).1] at hi
    obtain ⟨r, hr, hp, hb, ha⟩ := hfwd n i hi
    obtain ⟨q, hq, hqp, hqb, hqa⟩ := hback i r hr n hb hp
    exact ⟨q, hq, hqp, hqb, fun hpi => hqa hpi (ha ((hst n).2 hpi))⟩
  · obtain ⟨r, hr, hb⟩ := hrec j q hq n hn
    rw [(hst n).1]
    exact hbwd j r hr n hb

/-- A slot without a bound record, before and after, touches no bond. -/
theorem State.bond_unbound {q : Option Record} (h : s.bindingLaw) (hs : t.stations = s.stations) (hm : s.Refiled t i q)
    (hr : ∀ r, s.record i = some r → r.bound = none) (hq : ∀ r, q = some r → r.bound = none) : t.bindingLaw := by
  have hst : t.station = s.station := by unfold State.station; rw [hs]
  refine State.bond_keep h (by simp [hst]) (fun j p hp n hn => ?_) (fun j p hp n hn hext => ?_)
  · rw [hm j] at hp
    split at hp
    case isTrue hij => simp [hq p hp] at hn
    case isFalse => exact ⟨p, hp, hn⟩
  · have hij : i ≠ j := by rintro rfl; simp [hr p hp] at hn
    exact ⟨p, by simp [hm j, hij, hp], hext, hn, fun _ => id⟩

/-- A change of a record that keeps its bond, its phase and, where its station is not pierced, an attempt left. -/
theorem State.bond_modRecord {f : Record → Record} (h : s.bindingLaw)
    (hf : ∀ r, s.record i = some r → (f r).bound = r.bound ∧ (f r).phase = r.phase
      ∧ ∀ n, r.bound = some n → (s.station n).pierced = false → r.attempts < 2 → (f r).attempts < 2) :
    (s.modRecord i f).bindingLaw := by
  refine State.bond_keep h (by simp) (fun j q hq n hn => ?_) (fun j r hr n hn hext => ?_)
  · rw [State.modRecord_record] at hq
    split at hq
    case isTrue hij =>
      subst hij
      obtain ⟨r, hr, rfl⟩ := Option.map_eq_some_iff.mp hq
      exact ⟨r, hr, (hf r hr).1 ▸ hn⟩
    case isFalse => exact ⟨q, hq, hn⟩
  · rw [State.modRecord_record]
    split
    case isTrue hij =>
      subst hij
      obtain ⟨hb, hp, ha⟩ := hf r hr
      exact ⟨f r, by simp [hr], hp.trans hext, hb.trans hn, ha n hn⟩
    case isFalse => exact ⟨r, hr, hext, hn, fun _ => id⟩

/-- A change of a station that keeps its slot and leaves it pierced. -/
theorem State.bond_modStation {g : Station → Station} (h : s.bindingLaw) (hb : (g (s.station n)).bound = (s.station n).bound)
    (hp : (g (s.station n)).pierced = false → (s.station n).pierced = false) : (s.modStation n g).bindingLaw := by
  refine State.bond_keep h (fun m => ?_) (fun j q hq n hn => ⟨q, hq, hn⟩) (fun j r hr n hn hext => ⟨r, hr, hext, hn, fun _ => id⟩)
  rw [State.modStation_station]
  split
  case isTrue hnm => subst hnm; exact ⟨hb, hp⟩
  case isFalse => exact ⟨rfl, id⟩

/-- A station and a slot, each bound to the other or to none, before and after. -/
theorem State.bond_rebind {f : Record → Record} {g : Station → Station} (h : s.bindingLaw) (hr : s.record i = some r)
    (hn : (s.station n).bound = none ∨ (s.station n).bound = some i) (hi : r.bound = none ∨ r.bound = some n)
    (hnew : ((g (s.station n)).bound = none ∧ (f r).bound = none)
      ∨ (g (s.station n)).bound = some i ∧ (f r).bound = some n ∧ (f r).phase = .extracting ∧ (f r).attempts < 2) :
    ((s.modRecord i f).modStation n g).bindingLaw := by
  obtain ⟨hfwd, hbwd⟩ := h
  constructor
  · intro m j hj
    rw [State.modStation_station] at hj ⊢
    simp only [State.modStation_record, State.modRecord_record, State.modRecord_station] at hj ⊢
    by_cases hnm : n = m
    · subst hnm
      rw [if_pos rfl] at hj ⊢
      rcases hnew with ⟨hg, -⟩ | ⟨hg, hb, hp, ha⟩
      · simp [hg] at hj
      · have hij : i = j := by simpa [hg] using hj
        exact ⟨f r, by simp [hij ▸ hr, hij], hp, hb, fun _ => ha⟩
    · rw [if_neg hnm] at hj ⊢
      obtain ⟨q, hq, hqp, hqb, hqa⟩ := hfwd m j hj
      have hij : i ≠ j := by
        rintro rfl
        cases hr.symm.trans hq
        rcases hi with hi | hi <;> simp [hi] at hqb
        exact hnm hqb
      exact ⟨q, by simpa [hij] using hq, hqp, hqb, hqa⟩
  · intro j q hq m hm
    rw [State.modStation_station]
    simp only [State.modStation_record, State.modRecord_record, State.modRecord_station] at hq ⊢
    by_cases hij : i = j
    · subst hij
      have hfq : f r = q := by simpa [hr] using hq
      subst hfq
      rcases hnew with ⟨-, hb⟩ | ⟨hg, hb, -, -⟩
      · simp [hb] at hm
      · have hnm : n = m := by simpa [hb] using hm
        simp [hnm.symm, hg]
    · have hqj : s.record j = some q := by simpa [hij] using hq
      have hb := hbwd j q hqj m hm
      have hnm : n ≠ m := by
        rintro rfl
        rcases hn with hn | hn <;> simp [hn] at hb
        exact hij hb
      simpa [hnm] using hb

end Bonds

end Sys2Proof.Machine
end

section
/-! The gate cycle keeps the agreement (R70 to R79): the moves of a record keep all but the Feeder's own law, and each entry to a
state of the Feeder restores that law. -/

namespace Sys2Proof.Machine

/-! ### Moves of the gate cycle -/

section Gate

variable {s t : State} {i : Slot} {r : Record}

theorem State.Filed.noBond (h : s.Filed) (hp : r.phase ≠ .extracting) (hr : s.record i = some r) :
    ∀ q, s.record i = some q → q.bound = none := fun _ hq => by
  cases hr.symm.trans hq; exact h.unbound hr hp

/-- A change of the table in one slot without bond, at stations that stay, keeps all but the Feeder's law. -/
theorem State.Core.refile {q : Option Record} (h : s.Core) (hfiled : t.Filed) (hm : s.Refiled t i q)
    (hr : ∀ r, s.record i = some r → r.bound = none) (hq : ∀ r, q = some r → r.bound = none)
    (hs : t.stations = s.stations) (hf : t.fitted4 = s.fitted4) (ha : t.atm.state = s.atm.state)
    (hc : t.atm.tripCauses = s.atm.tripCauses) : t.Core := by
  have hst : t.station = s.station := by unfold State.station; rw [hs]
  have hfit : t.fitted = s.fitted := by unfold State.fitted State.fittedCount; rw [hf]
  refine ⟨hfiled, ?_, State.bond_unbound h.bond hs hm hr hq, ?_, ?_⟩
  · rw [hst]; exact h.station
  · rw [hfit, hst]; exact h.unfitted
  · rw [ha, hc]; exact h.trip

theorem GateFrame.same {s t : State} (h : GateFrame s t) :
    t.stations = s.stations ∧ t.fitted4 = s.fitted4 ∧ t.atm = s.atm := by
  unfold GateFrame at h; rw [h]; exact ⟨rfl, rfl, rfl⟩

theorem State.Core.of_gate {q : Option Record} (h : s.Core) (hg : GateFrame s t) (hfiled : t.Filed) (hm : s.Refiled t i q)
    (hr : ∀ r, s.record i = some r → r.bound = none) (hq : ∀ r, q = some r → r.bound = none) : t.Core := by
  obtain ⟨hs, hf, ha⟩ := hg.same
  exact h.refile hfiled hm hr hq hs hf (by rw [ha]) (by rw [ha])

theorem State.Core.release (h : s.Core) (hr : s.record i = some r) (hp : r.phase = .extracted) : (s.release i).Core := by
  have hb := h.filed.noBond (by simp [hp]) hr
  refine h.of_gate rfl (h.filed.release hr hp) (State.mod_refiled
    (fun r => { r with phase := .shredWait, releaseOrder := some s.table.relCtr }) hr rfl) hb ?_
  rintro q ⟨⟩
  exact hb r hr

theorem State.Core.takeHead (h : s.Core) (hf : s.table.feeding = none) (ho : s.table.openSet.length < 8) :
    s.takeHead.Core := by
  cases hq : s.table.shredQueue with
  | nil => simpa [State.takeHead, hq] using h
  | cons i rest =>
    have hshred := h.filed.shred
    rw [hq] at hshred
    obtain ⟨r, hr, hp⟩ := hshred.record (i := i) (by simp)
    have hb := h.filed.noBond (by simp [hp]) hr
    refine h.of_gate s.takeHead_frame (h.filed.takeHead hf ho)
      (State.mod_refiled (fun r => { r with phase := .feeding }) hr (by simp [State.takeHead, hq])) hb ?_
    rintro q ⟨⟩
    exact hb r hr

theorem State.Core.returnToHead (h : s.Core) : s.returnToHead.Core := by
  cases hf : s.table.feeding with
  | none => simpa [State.returnToHead, hf] using h
  | some i =>
    obtain ⟨r, hr, hp⟩ := h.filed.feeding_record hf
    have hb := h.filed.noBond (by simp [hp]) hr
    refine h.of_gate s.returnToHead_frame h.filed.returnToHead
      (State.mod_refiled (fun r => { r with phase := .shredWait }) hr (by simp [State.returnToHead, hf])) hb ?_
    rintro q ⟨⟩
    exact hb r hr

theorem State.Core.feedRecord (h : s.Core) (t : Time) (b : Bool) : (s.feedRecord t b).Core := by
  cases hf : s.table.feeding with
  | none => simpa [State.feedRecord, hf] using h
  | some i =>
    obtain ⟨r, hr, hp⟩ := h.filed.feeding_record hf
    have hb := h.filed.noBond (by simp [hp]) hr
    refine h.of_gate (s.feedRecord_frame t b) (h.filed.feedRecord t b)
      (State.mod_refiled (fun r => r.fed t (s.item iNSettle) b) hr (by rw [State.feedRecord_table hf])) hb ?_
    rintro q ⟨⟩
    exact hb r hr

theorem State.Core.closeSlot (h : s.Core) (hr : s.record i = some r)
    (hp : r.phase ≠ .extracting ∧ r.phase ≠ .feeding ∧ r.phase ≠ .closed) : (s.closeSlot i).Core := by
  have hframe := s.closeSlot_frame i
  have hb := h.filed.noBond hp.1 hr
  refine h.refile (q := some (r.close s.clock)) (h.filed.closeSlot hr hp)
    (State.put_refiled (by rw [State.closeSlot_table hr])) hb ?_ ?_ ?_ ?_ ?_
  · rintro q ⟨⟩
    exact hb r hr
  all_goals rw [hframe]

theorem State.Core.takeClosed (h : s.Core) (tag : Byte) : (s.takeClosed tag).Core := by
  have hrec := s.takeClosed_record tag
  refine ⟨h.filed.takeClosed tag, h.station, ?_, h.unfitted, h.trip⟩
  refine State.bond_keep h.bond (fun n => ⟨rfl, id⟩) (fun j q hq n hn => ?_) (fun j r hr n hn hext => ?_)
  · rw [hrec j] at hq
    split at hq
    · cases hq
    · exact ⟨q, hq, hn⟩
  · have hj : j ∉ s.table.closedList.take 4 := fun hj => by
      obtain ⟨q, hq, hqp⟩ := h.filed.closed.record (List.mem_of_mem_take hj)
      cases hr.symm.trans hq
      simp [hext] at hqp
    exact ⟨r, by rw [hrec j, if_neg hj, hr], hext, hn, fun _ => id⟩

theorem State.Core.enrol (h : s.Core) (hr : s.record i = none) (hok : r.okAt i) (hp : r.phase = .queued)
    (hid : ∀ j q, s.record j = some q → q.ident ≠ r.ident) : (s.enrol i r).Core := by
  have hb : r.bound = none := by
    obtain ⟨-, -, -, -, hb, -⟩ := hok
    simpa [hp] using hb
  refine h.refile (q := some r) (h.filed.enrol hr hok hp hid) (State.put_refiled rfl) (by simp [hr]) ?_ rfl rfl rfl rfl
  rintro q ⟨⟩
  exact hb

/-! ### Entries to the states of the Feeder -/

/-- The Feeder's law but for a WAIT_PERMIT whose queue has become empty, which its next judgement mends (R72). -/
def State.gateLoose (s : State) : Prop :=
  (s.feeder.state = .opening ∨ s.feeder.state = .passing → s.table.feeding.isSome = true)
    ∧ (s.feeder.state = .idle ∨ s.feeder.state = .waitPermit ∨ s.feeder.state = .closing → s.table.feeding = none)
    ∧ (s.feeder.state = .idle → s.table.shredQueue = [])
    ∧ (s.feeder.jam.isSome ↔ s.feeder.state = .jammed)
    ∧ (s.feeder.deadline.isSome ↔
      s.feeder.state = .opening ∨ s.feeder.state = .passing ∨ s.feeder.state = .closing)

theorem State.Agrees.gateLoose (h : s.Agrees) : s.gateLoose := by
  obtain ⟨h1, h2, h3, -, h5, h6⟩ := h.gate
  exact ⟨h1, h2, h3, h5, h6⟩

theorem State.Agrees.jam_none (h : s.Agrees) (hs : s.feeder.state ≠ .jammed) : s.feeder.jam = none := by
  obtain ⟨-, -, -, -, hj, -⟩ := h.gate
  simpa using mt hj.mp hs

theorem State.Core.untimed (h : s.Core) (x : FeederState) : (s.feederUntimed x).Core := h.of_same rfl rfl rfl rfl rfl
theorem State.Core.timed (h : s.Core) (x : FeederState) (l : Item) : (s.feederTimed x l).Core := h.of_same rfl rfl rfl rfl rfl

/-- Entry to a timed state with a feeding record (R74, R75). -/
theorem State.Core.enterFeeding {x : FeederState} {l : Item} (h : s.Core) (hx : x = .opening ∨ x = .passing)
    (hf : s.table.feeding.isSome = true) (hj : s.feeder.jam = none) : (s.feederTimed x l).Agrees := by
  refine ⟨h.timed x l, ?_⟩
  rcases hx with rfl | rfl <;> simp [State.feederLaw, State.feederTimed, hf, hj]

theorem State.takeHead_feeding (hq : s.table.shredQueue ≠ []) : s.takeHead.table.feeding.isSome = true := by
  unfold State.takeHead
  split
  · contradiction
  · rfl

theorem State.takeHead_feeder (s : State) : s.takeHead.feeder = s.feeder := by
  unfold State.takeHead; split <;> rfl

/-- Entry to OPENING (R74). -/
theorem State.Core.enterOpening (h : s.Core) (hf : s.table.feeding = none) (ho : s.table.openSet.length < 8)
    (hq : s.table.shredQueue ≠ []) (hj : s.feeder.jam = none) : s.enterOpening.Agrees := by
  have htake : s.takeHead.Core := h.takeHead hf ho
  have hfeed := s.takeHead_feeding hq
  have hjam : s.takeHead.feeder.jam = none := by rw [State.takeHead_feeder, hj]
  unfold State.enterOpening
  simp only
  split
  · exact htake.enterFeeding (.inl rfl) hfeed hjam
  · exact (htake.timed .opening iTOpen).enterFeeding (.inr rfl) hfeed hjam

/-- The permit's judgement restores the Feeder's law (R72, R73). -/
theorem State.Core.judgePermit (h : s.Core) (hg : s.gateLoose) : s.judgePermit.Agrees := by
  obtain ⟨h1, h2, h3, h5, h6⟩ := hg
  unfold State.judgePermit
  split
  case isTrue hw =>
    have hf := h2 (.inr (.inl hw))
    have hj : s.feeder.jam = none := by simpa [hw] using h5
    split
    case isTrue hq =>
      exact ⟨h.untimed .idle, by simp [State.feederLaw, State.feederUntimed, hf, hq, hj]⟩
    case isFalse hq =>
      split
      case isTrue hpermit =>
        simp only [State.permit, Bool.and_eq_true, Config.maxOpen] at hpermit
        obtain ⟨⟨⟨-, ho⟩, -⟩, -⟩ := hpermit
        exact h.enterOpening hf (of_decide_eq_true ho) hq hj
      case isFalse => exact ⟨h, h1, h2, h3, fun _ => hq, h5, h6⟩
  case isFalse hw => exact ⟨h, h1, h2, h3, fun h => absurd h hw, h5, h6⟩

theorem State.Agrees.judgePermit (h : s.Agrees) : s.judgePermit.Agrees := h.toCore.judgePermit h.gateLoose

/-- Entry to IDLE, without a feeding record and without a jam (R72). -/
theorem State.Core.feederToIdle (h : s.Core) (hf : s.table.feeding = none) (hj : s.feeder.jam = none) :
    s.feederToIdle.Agrees := by
  unfold State.feederToIdle State.judgeIdle
  split
  · exact ((h.untimed .idle).untimed .waitPermit).judgePermit (by simp [State.gateLoose, State.feederUntimed, hf, hj])
  case isFalse hq =>
    have hq : s.table.shredQueue = [] := by simpa [State.feederUntimed] using hq
    exact ⟨h.untimed .idle, by simp [State.feederLaw, State.feederUntimed, hf, hj, hq]⟩

/-- Entry to CLOSING (R76, R77). -/
theorem State.Core.enterClosing (h : s.Core) (hf : s.table.feeding = none) (hj : s.feeder.jam = none) :
    s.enterClosing.Agrees := by
  unfold State.enterClosing
  simp only
  split
  · exact (h.timed .closing iTClose).feederToIdle hf hj
  · exact ⟨h.timed .closing iTClose, by simp [State.feederLaw, State.feederTimed, hf, hj]⟩

/-- Entry to JAMMED (R78). -/
theorem State.Core.enterJam (h : s.Core) (c : JamCause) : (s.enterJam c).Agrees :=
  ⟨h.of_same rfl rfl rfl rfl rfl, by simp [State.feederLaw, State.enterJam, State.feederUntimed]⟩

/-- In IDLE with a queue the Feeder goes on to WAIT_PERMIT and judges there (R72, R73). -/
theorem State.Core.judgeIdle (h : s.Core) (hg : s.feederLaw ∨ s.feeder.state = .idle ∧ s.table.feeding = none
    ∧ s.feeder.jam = none ∧ s.table.shredQueue ≠ []) : s.judgeIdle.Agrees := by
  unfold State.judgeIdle
  rcases hg with hg | ⟨hidle, hf, hj, hq⟩
  · rw [if_neg (by rintro ⟨hi, hq⟩; obtain ⟨-, -, h3, -⟩ := hg; exact hq (h3 hi))]
    exact ⟨h, hg⟩
  · rw [if_pos ⟨hidle, hq⟩]
    exact (h.untimed .waitPermit).judgePermit (by simp [State.gateLoose, State.feederUntimed, hf, hj])

/-! ### The events of the gate and the shredder -/

theorem State.returnToHead_feeding (s : State) : s.returnToHead.table.feeding = none := by
  unfold State.returnToHead; split <;> simp_all

theorem State.feedRecord_feeding (s : State) (t : Time) (b : Bool) : (s.feedRecord t b).table.feeding = none := by
  unfold State.feedRecord; split <;> simp_all

theorem State.returnToHead_feeder (s : State) : s.returnToHead.feeder = s.feeder := by
  unfold State.returnToHead; split <;> rfl

theorem State.feedRecord_feeder (s : State) (t : Time) (b : Bool) : (s.feedRecord t b).feeder = s.feeder := by
  unfold State.feedRecord; split <;> rfl

theorem State.Core.feedEvent (h : s.Core) (t : Time) (b : Bool) : (s.feedEvent t b).Core :=
  (h.feedRecord t b).of_same rfl rfl rfl rfl rfl

theorem State.feedEvent_feeding (s : State) (t : Time) (b : Bool) : (s.feedEvent t b).table.feeding = none :=
  s.feedRecord_feeding t b

theorem State.feedEvent_jam (s : State) (t : Time) (b : Bool) : (s.feedEvent t b).feeder.jam = s.feeder.jam := by
  show (s.feedRecord t b).feeder.jam = _
  rw [State.feedRecord_feeder]

theorem State.Agrees.feederHalt (h : s.Agrees) (c : JamCause) : (s.feederHalt c).Agrees := by
  unfold State.feederHalt
  split
  case h_1 ho =>
    exact h.toCore.returnToHead.feederToIdle s.returnToHead_feeding
      (by rw [State.returnToHead_feeder]; exact h.jam_none (by simp [ho]))
  case h_2 => exact h.toCore.enterJam c
  case h_3 => exact h

theorem State.Agrees.gateOpened (h : s.Agrees) : s.gateOpened.Agrees := by
  have hpin : State.Agrees { s with pins := { s.pins with gateClosed := false } } := h.of_same ⟨rfl, rfl, rfl, rfl, rfl, rfl⟩
  unfold State.gateOpened
  simp only
  split
  · exact h
  · split
    case isTrue ho =>
      obtain ⟨hf, -⟩ := h.gate
      exact hpin.toCore.enterFeeding (.inr rfl) (hf (.inl ho)) (hpin.jam_none (by simp [ho]))
    case isFalse => exact hpin

theorem State.Agrees.gateShut (h : s.Agrees) : s.gateShut.Agrees := by
  have hpin : State.Agrees { s with pins := { s.pins with gateClosed := true } } := h.of_same ⟨rfl, rfl, rfl, rfl, rfl, rfl⟩
  unfold State.gateShut
  simp only
  split
  · exact h
  · split
    case isTrue hc =>
      obtain ⟨-, hf, -⟩ := h.gate
      exact hpin.toCore.feederToIdle (hf (.inr (.inr hc))) (hpin.jam_none (by simp [hc]))
    case isFalse => exact hpin

theorem State.Agrees.openExpired (h : s.Agrees) : s.openExpired.Agrees := by
  unfold State.openExpired
  split
  · exact h.toCore.returnToHead.enterJam _
  · exact h

theorem State.Agrees.passExpired (h : s.Agrees) : s.passExpired.Agrees := by
  unfold State.passExpired
  split
  · exact h.toCore.enterJam _
  · exact h

theorem State.Agrees.closeExpired (h : s.Agrees) : s.closeExpired.Agrees := by
  unfold State.closeExpired
  split
  · exact h.toCore.enterJam _
  · exact h

theorem State.Agrees.beamCleared (h : s.Agrees) : s.beamCleared.Agrees := by
  have hpin : State.Agrees { s with pins := { s.pins with beam := false } } := h.of_same ⟨rfl, rfl, rfl, rfl, rfl, rfl⟩
  unfold State.beamCleared
  simp only
  split
  case isTrue hp =>
    have hp : s.feeder.state = .passing := by simpa [State.feedArmed] using hp
    refine (hpin.toCore.feedEvent _ _).enterClosing (State.feedEvent_feeding _ _ _) ?_
    rw [State.feedEvent_jam]
    exact hpin.jam_none (by simp [hp])
  case isFalse => exact hpin

theorem State.Agrees.shredderRuns (h : s.Agrees) (b : Bool) : (s.shredderRuns b).Agrees := by
  unfold State.shredderRuns
  split
  · exact h
  · exact State.Agrees.judgePermit (h.of_same ⟨rfl, rfl, rfl, rfl, rfl, rfl⟩)

/-- A jam freed, the feeding record gone (R78). -/
theorem State.Core.freeJam (h : s.Core) (hf : s.table.feeding = none) : s.freeJam.Agrees :=
  State.Core.feederToIdle (h.of_same rfl rfl rfl rfl rfl) hf rfl

end Gate

end Sys2Proof.Machine
end

section
/-! The stations keep the agreement (R25 to R48, R62): an attempt that begins, goes on and ends. -/

namespace Sys2Proof.Machine

/-! ### Single changes -/

section Stations

variable {s : State} {i : Slot} {r : Record} {n : StationNo}

/-- The stations of a state that another has changed in one, each with its law. -/
theorem State.Core.with_table {t : State} (h : s.Core) (hfiled : t.Filed) (hbond : t.bindingLaw) (hs : t.stations = s.stations)
    (hf : t.fitted4 = s.fitted4) (ha : t.atm = s.atm) : t.Core := by
  have hst : t.station = s.station := by unfold State.station; rw [hs]
  have hfit : t.fitted = s.fitted := by unfold State.fitted State.fittedCount; rw [hf]
  exact ⟨hfiled, hst ▸ h.station, hbond, hfit ▸ hst ▸ h.unfitted, ha ▸ h.trip⟩

theorem State.Core.modRecord_same {f : Record → Record} (h : s.Core) (hf : ∀ r : Record, r.Same (f r)) :
    (s.modRecord i f).Core := by
  refine h.with_table (h.filed.modRecord_same hf) (State.bond_modRecord h.bond fun r _ => ?_) rfl rfl rfl
  obtain ⟨-, -, hatt, -, hb, hp, -⟩ := hf r
  exact ⟨hb, hp, fun _ _ _ ha => hatt ▸ ha⟩

theorem State.Agrees.modRecord_same {f : Record → Record} (h : s.Agrees) (hf : ∀ r : Record, r.Same (f r)) :
    (s.modRecord i f).Agrees := ⟨h.toCore.modRecord_same hf, h.gate⟩

theorem State.Agrees.modRecords_same {f : Record → Record} (h : s.Agrees) (hf : ∀ r : Record, r.Same (f r)) (is : List Slot) :
    (s.modRecords is f).Agrees := by
  induction is generalizing s with
  | nil => exact h
  | cons i is ih => exact ih (h.modRecord_same hf)

theorem State.Agrees.raise (h : s.Agrees) (i : SourceNo) (x : Option Nat) (v : Option Value) : (s.raise i x v).Agrees :=
  h.of_same ⟨rfl, rfl, rfl, rfl, rfl, rfl⟩

theorem State.Agrees.report (h : s.Agrees) (i : SourceNo) (b : Bool) (x : Option Nat) (v : Option Value) :
    (s.report i b x v).Agrees := h.of_same ⟨rfl, rfl, rfl, rfl, rfl, rfl⟩

/-- A table and stations that agree, the Feeder's side being as it was. -/
theorem State.Agrees.restation {f : Record → Record} {g : Station → Station} (h : s.Agrees)
    (hfiled : (s.modRecord i f).Filed) (hbond : ((s.modRecord i f).modStation n g).bindingLaw)
    (hlaw : (g (s.station n)).law) (hidle : (s.station n).state = .idle → s.fitted n = false → (g (s.station n)).state = .idle) :
    ((s.modRecord i f).modStation n g).Agrees := by
  refine ⟨⟨hfiled.of_table rfl, fun m => ?_, hbond, fun m hm => ?_, h.trip⟩, h.gate⟩ <;>
    rw [State.modStation_station] <;> split
  · exact hlaw
  · exact h.station m
  case _ hnm => subst hnm; exact hidle (h.unfitted n hm) hm
  · exact h.unfitted m hm

/-- A change of a station that keeps its slot, its law, and IDLE. -/
theorem State.Agrees.modStation {g : Station → Station} (h : s.Agrees) (hlaw : (g (s.station n)).law)
    (hb : (g (s.station n)).bound = (s.station n).bound)
    (hp : (g (s.station n)).pierced = false → (s.station n).pierced = false)
    (hidle : (s.station n).state = .idle → (g (s.station n)).state = .idle) : (s.modStation n g).Agrees := by
  refine ⟨⟨h.filed.of_table rfl, fun m => ?_, State.bond_modStation h.bond hb hp, fun m hm => ?_, h.trip⟩, h.gate⟩ <;>
    rw [State.modStation_station] <;> split
  · exact hlaw
  · exact h.station m
  case _ hnm => subst hnm; exact hidle (h.unfitted n hm)
  · exact h.unfitted m hm

/-- The record bound to a station (R4, R9). -/
theorem State.Agrees.bound_record (h : s.Agrees) (hb : (s.station n).bound = some i) :
    ∃ r, s.record i = some r ∧ r.phase = .extracting ∧ r.bound = some n
      ∧ ((s.station n).pierced = false → r.attempts < 2) := by
  obtain ⟨hfwd, -⟩ := h.bond
  exact hfwd n i hb

theorem State.Agrees.bound_of_busy (h : s.Agrees) (hs : (s.station n).state.busy = true) :
    ∃ i, (s.station n).bound = some i := by
  obtain ⟨hb, -⟩ := h.station n
  exact Option.isSome_iff_exists.mp (hb.trans hs)

/-- An attempt ends: its record goes on to a phase without collection, and both sides of the bond are gone. -/
theorem State.Agrees.endBond {f : Record → Record} {g : Station → Station} (h : s.Agrees)
    (hb : (s.station n).bound = some i)
    (hf : ∀ r : Record, ((f r).slot = r.slot ∧ (f r).ident = r.ident ∧ (f r).attempts = r.attempts ∧ (f r).used = r.used)
      ∧ (f r).bound = none ∧ (f r).ticks = r.ticks ∧ ((f r).phase = .queued ∨ (f r).phase = .extracted))
    (hlaw : (g (s.station n)).law) (hg : (g (s.station n)).bound = none) :
    ((s.modRecord i f).modStation n g).Agrees := by
  obtain ⟨r, hr, hp, hrb, -⟩ := h.bound_record hb
  obtain ⟨hkin, hfb, hft, hfp⟩ := hf r
  have hticks : r.ticks = none := h.filed.noTicks hr (by simp [hp])
  have hok : (f r).okAt i := (h.filed.ok i r hr).move hkin (by rcases hfp with hfp | hfp <;> simp [hfb, hfp])
    (by rcases hfp with hfp | hfp <;> simp [hft, hfp, hticks])
  refine h.restation (h.filed.modRecord fun q hq => ?_)
    (State.bond_rebind h.bond hr (.inr hb) (.inr hrb) (.inl ⟨hg, hfb⟩)) hlaw fun hidle => ?_
  · cases hr.symm.trans hq
    exact ⟨hkin.2.1, hok, .inr ⟨by rcases hfp with hfp | hfp <;> simp [hfp, Phase.loose], by simp [hp, Phase.loose]⟩⟩
  · obtain ⟨hbusy, -⟩ := h.station n
    simp [hb, hidle, StationState.busy, StationState.running] at hbusy

theorem Record.unbind_spec (r : Record) : (r.unbind.slot = r.slot ∧ r.unbind.ident = r.ident ∧ r.unbind.attempts = r.attempts
      ∧ r.unbind.used = r.used)
    ∧ r.unbind.bound = none ∧ r.unbind.ticks = r.ticks ∧ (r.unbind.phase = .queued ∨ r.unbind.phase = .extracted) :=
  ⟨⟨rfl, rfl, rfl, rfl⟩, rfl, rfl, .inl rfl⟩

theorem Record.extract_spec (v : Verdict) (r : Record) : ((r.extract v).slot = r.slot ∧ (r.extract v).ident = r.ident
      ∧ (r.extract v).attempts = r.attempts ∧ (r.extract v).used = r.used)
    ∧ (r.extract v).bound = none ∧ (r.extract v).ticks = r.ticks
    ∧ ((r.extract v).phase = .queued ∨ (r.extract v).phase = .extracted) :=
  ⟨⟨rfl, rfl, rfl, rfl⟩, rfl, rfl, .inr rfl⟩

/-! ### The end of an attempt (R41, R42, R46 to R48) -/

/-- A station as AWAIT_UNCLAMP takes it (R42). -/
def Station.awaiting (clamped : Bool) (x : Station) : Station :=
  { x with
    state := if clamped then .awaitUnclamp else .idle
    bound := none
    endCause := none
    deadline := none
    probeDeadline := none }

/-- A station as FAULTED takes it (R48). -/
def Station.faulted (c : FaultCause) (x : Station) : Station :=
  { x with
    state := .faulted
    bound := none
    endCause := none
    faultCause := some c
    deadline := none
    probeDeadline := none }

theorem Station.awaiting_law {x : Station} (b : Bool) (h : x.pierced = true → x.tareReceiver.isSome = true ∧ x.tareOil.isSome = true)
    (hf : x.faultCause = none) : (x.awaiting b).law := by
  cases b <;> simpa [Station.law, Station.awaiting, StationState.busy, StationState.open, StationState.running, hf] using h

theorem Station.faulted_law {x : Station} (c : FaultCause)
    (h : x.pierced = true → x.tareReceiver.isSome = true ∧ x.tareOil.isSome = true) : (x.faulted c).law := by
  simpa [Station.law, Station.faulted, StationState.busy, StationState.open, StationState.running] using h

theorem Station.law.tares {x : Station} (h : x.law) : x.pierced = true → x.tareReceiver.isSome = true ∧ x.tareOil.isSome = true := by
  obtain ⟨-, -, -, -, -, -, ht⟩ := h
  exact ht

theorem Station.law.no_fault {x : Station} (h : x.law) (hs : x.state ≠ .faulted) : x.faultCause = none := by
  obtain ⟨-, -, -, hf, -⟩ := h
  simpa using mt hf.mp hs

theorem Station.law.bound_iff {x : Station} (h : x.law) : x.bound.isSome = x.state.busy := h.1

/-- A station that holds an appliance is neither FAULTED nor IDLE. -/
theorem Station.law.of_bound {x : Station} (h : x.law) (hb : x.bound = some i) : x.state ≠ .faulted ∧ x.state ≠ .idle := by
  have hbusy := h.bound_iff
  constructor <;> intro hs <;>
    simp [hb, hs, StationState.busy, StationState.running] at hbusy

theorem State.enterAwait_eq (s : State) (n : StationNo) :
    s.enterAwait n = s.modStation n (Station.awaiting s.pins.clamp[n]) := rfl

theorem State.enterFaulted_eq (s : State) (n : StationNo) (c : FaultCause) (x : Option Slot) :
    s.enterFaulted n c x
      = (s.modStation n (Station.faulted c)).raise (srcStationFault n) (x.map Fin.val) (some (.fault c)) := rfl

/-- An attempt that ends in AWAIT_UNCLAMP or IDLE. -/
theorem State.Agrees.endAwait {f : Record → Record} (h : s.Agrees) (hb : (s.station n).bound = some i)
    (hf : ∀ r : Record, ((f r).slot = r.slot ∧ (f r).ident = r.ident ∧ (f r).attempts = r.attempts ∧ (f r).used = r.used)
      ∧ (f r).bound = none ∧ (f r).ticks = r.ticks ∧ ((f r).phase = .queued ∨ (f r).phase = .extracted)) :
    ((s.modRecord i f).enterAwait n).Agrees := by
  have hlaw := h.station n
  rw [State.enterAwait_eq]
  exact h.endBond hb hf (Station.awaiting_law _ hlaw.tares (hlaw.no_fault (hlaw.of_bound hb).1)) rfl

/-- An attempt that ends in FAULTED. -/
theorem State.Agrees.endFaulted (h : s.Agrees) (hb : (s.station n).bound = some i) (c : FaultCause) (x : Option Slot) :
    ((s.modRecord i Record.unbind).enterFaulted n c x).Agrees := by
  rw [State.enterFaulted_eq]
  exact (h.endBond hb Record.unbind_spec (Station.faulted_law c (h.station n).tares) rfl).raise _ _ _

theorem State.Agrees.endAttempt (h : s.Agrees) (hb : (s.station n).bound = some i) : (s.endAttempt n i).Agrees := by
  have done (v : Verdict) :
      (((s.modRecord i fun r => r.extract v).raise (srcStationDone n) (some i.val) (some (.verdict v))).enterAwait n).Agrees :=
    (h.endAwait hb (Record.extract_spec v)).of_same ⟨rfl, rfl, rfl, rfl, rfl, rfl⟩
  unfold State.endAttempt
  split
  · exact h.endAwait hb Record.unbind_spec
  · exact h.endAwait hb Record.unbind_spec
  · exact h.endAwait hb Record.unbind_spec
  · exact h.endFaulted hb _ _
  · exact done _
  · exact done _
  · split
    · exact h
    · exact done _

theorem Record.weighed_same (a b : Nat) (c d : Bool) (r : Record) : r.Same (r.weighed a b c d) :=
  ⟨rfl, rfl, rfl, rfl, rfl, rfl, rfl⟩

theorem Record.flag_same (f : Flag) (r : Record) : r.Same (r.flag f) := ⟨rfl, rfl, rfl, rfl, rfl, rfl, rfl⟩

theorem State.Agrees.weigh (h : s.Agrees) (n : StationNo) (wf ofl : Int) (b : Bool) : (s.weigh n wf ofl b).Agrees := by
  unfold State.weigh
  split
  · exact h
  case h_2 i hi =>
    split
    · exact h
    · refine State.Agrees.endAttempt ((h.modRecord_same (Record.weighed_same _ _ _ _)).modStation ?_ rfl id id) ?_
      · exact h.station n
      · simpa using hi

/-! ### PIERCING and the judgement of the rings (R32, R41, R47) -/

/-- A station as PIERCING takes it from TARING (R32, R33). -/
def Station.piercing (wt ot : Int) (deadline : Time) (x : Station) : Station :=
  { x with tareReceiver := some wt, tareOil := some ot, pierced := true, state := .piercing, deadline := some deadline }

/-- The attempt counted at its record (R4, R33). -/
def Record.attempt (n : StationNo) (r : Record) : Record := { r with attempts := r.attempts + 1, used := r.used ++ [n] }

theorem State.modStation_modStation (s : State) (n : StationNo) (f g : Station → Station) :
    (s.modStation n f).modStation n g = s.modStation n fun x => g (f x) := by
  simp [State.modStation]

theorem State.enterPiercing_eq (hb : (s.station n).bound = some i) :
    s.enterPiercing n = (s.modStation n (Station.piercing (s.channel (scaleChannel n)).settledValue
      (s.channel (cupChannel n)).settledValue (after s.clock (s.item iTPierce)))).modRecord i (Record.attempt n) := by
  unfold State.enterPiercing State.enterTimed
  rw [hb]
  simp only [State.modStation_modStation]
  rfl

theorem State.Agrees.enterPiercing (h : s.Agrees) (hs : (s.station n).state = .taring) : (s.enterPiercing n).Agrees := by
  obtain ⟨i, hi⟩ := h.bound_of_busy (n := n) (by simp [hs, StationState.busy, StationState.running])
  obtain ⟨r, hr, hp, hrb, hatt⟩ := h.bound_record hi
  obtain ⟨hbusy, -, hend, hfault, -, hpierced, -⟩ := h.station n
  have hatt : r.attempts < 2 := hatt (hpierced (.inr hs))
  have hlaw (x : Station) (hx : x = s.station n) (wt ot : Int) (d : Time) : (x.piercing wt ot d).law := by
    subst hx
    simp [hs] at hend hfault
    simp [Station.law, Station.piercing, StationState.busy, StationState.running, hi, hend, hfault]
  have hst := h.modStation (n := n) (hlaw _ rfl (s.channel (scaleChannel n)).settledValue
    (s.channel (cupChannel n)).settledValue (after s.clock (s.item iTPierce))) rfl (by simp [Station.piercing])
    (by simp [hs])
  rw [State.enterPiercing_eq hi]
  refine ⟨hst.toCore.with_table (hst.filed.modRecord fun q hq => ?_) (State.bond_modRecord hst.bond fun q hq => ?_) rfl rfl rfl,
    hst.gate⟩
  · have hqr : q = r := by simpa [hr, eq_comm] using hq
    subst hqr
    obtain ⟨h1, h2, h3, h4, h5⟩ := h.filed.ok i q hr
    refine ⟨rfl, ⟨h1, h2, ?_, ?_, h5⟩, .inl rfl⟩
    · simp only [Record.attempt]; omega
    · simpa [Record.attempt] using h4
  · have hqr : q = r := by simpa [hr, eq_comm] using hq
    subst hqr
    refine ⟨rfl, rfl, fun m hm hpm => ?_⟩
    have hnm : n = m := by simpa [hrb] using hm
    simp [hnm, Station.piercing] at hpm

theorem State.Agrees.judgeRings (h : s.Agrees) (n : StationNo) : (s.judgeRings n).Agrees := by
  unfold State.judgeRings
  split
  · split
    case h_1 hs => exact h.enterPiercing hs
    · exact h.weigh n _ _ _
    · exact h.weigh n _ _ _
    · exact h
  · exact h

/-! ### Entries to the timed states -/

/-- A timed state whose entry changes neither bond nor mark. -/
theorem State.Agrees.enterTimed {x : StationState} {ms : Nat} (h : s.Agrees) (hb : (s.station n).state.busy = true)
    (hx : x.busy = true) (hend : x ≠ .abortWeighing ∧ (s.station n).state ≠ .abortWeighing)
    (ho : x.open = true → (s.station n).state.open = true)
    (hc : x = .clamping ∨ x = .taring → (s.station n).state = .clamping ∨ (s.station n).state = .taring) :
    (s.enterTimed n x ms).Agrees := by
  obtain ⟨h1, h2, h3, h4, h5, h6, h7⟩ := h.station n
  have hnf {y : StationState} (hy : y.busy = true) : y ≠ .faulted := by rintro rfl; cases hy
  refine h.modStation ⟨h1.trans (hb.trans hx.symm), hx.symm, ?_, ?_, fun hox => h5 (ho hox), fun hcx => h6 (hc hcx), h7⟩ rfl id
    fun hi => ?_
  · simpa [hend.1, hend.2] using h3
  · simpa [hnf hx, hnf hb] using h4
  · rw [hi] at hb; cases hb

theorem State.Agrees.enterTaring (h : s.Agrees) (hs : (s.station n).state = .clamping) : (s.enterTaring n).Agrees := by
  refine State.Agrees.judgeRings (h.enterTimed ?_ rfl ⟨by simp, by simp [hs]⟩ (by simp [StationState.open]) fun _ => .inl hs) n
  simp [hs, StationState.busy, StationState.running]

theorem State.Agrees.enterWeighing (h : s.Agrees) (ho : (s.station n).state.open = true)
    (hs : (s.station n).state ≠ .abortWeighing) : (s.enterWeighing n).Agrees := by
  refine State.Agrees.judgeRings (h.enterTimed ?_ rfl ⟨by simp, hs⟩ (fun _ => ho) (by simp)) n
  simp only [StationState.open, Bool.and_eq_true] at ho
  exact ho.1.1

/-- A station as ABORT_WEIGHING takes it (R46, R47). -/
def Station.abortWeighing (c : EndCause) (deadline : Time) (x : Station) : Station :=
  { x with endCause := some c, probeDeadline := none, state := .abortWeighing, deadline := some deadline }

theorem State.enterAbortWeighing_eq (s : State) (n : StationNo) (c : EndCause) : s.enterAbortWeighing n c
    = (s.modStation n (Station.abortWeighing c (after s.clock (s.item iTSettle)))).judgeRings n := by
  unfold State.enterAbortWeighing State.enterTimed
  rw [State.modStation_modStation]
  rfl

theorem State.Agrees.enterAbortWeighing (h : s.Agrees) (c : EndCause) (hb : (s.station n).state.busy = true)
    (hp : (s.station n).pierced = true) : (s.enterAbortWeighing n c).Agrees := by
  obtain ⟨h1, h2, h3, h4, h5, h6, h7⟩ := h.station n
  have hnf : (s.station n).state ≠ .faulted := by intro hf; rw [hf] at hb; cases hb
  have hni : (s.station n).state ≠ .idle := by intro hi; rw [hi] at hb; cases hb
  rw [State.enterAbortWeighing_eq]
  refine State.Agrees.judgeRings (h.modStation ?_ rfl id (absurd · hni)) n
  simp only [hnf, iff_false, Option.isSome_iff_ne_none, not_not] at h4
  rw [hb] at h1
  simp [Station.law, Station.abortWeighing, StationState.busy, StationState.running, StationState.open, h1, h4, hp, h7 hp]

theorem StationState.busy_of_open {x : StationState} (h : x.open = true) : x.busy = true := by
  simp only [StationState.open, Bool.and_eq_true] at h
  exact h.1.1

theorem Station.law.pierced {x : Station} (h : x.law) (ho : x.state.open = true) : x.pierced = true := by
  obtain ⟨-, -, -, -, hp, -⟩ := h
  exact hp ho

theorem State.Agrees.enterDraining (h : s.Agrees) (hs : (s.station n).state = .riseTest) : (s.enterDraining n).Agrees := by
  have ho : (s.station n).state.open = true := by rw [hs]; rfl
  unfold State.enterDraining
  split
  · exact h.enterWeighing ho (by simp [hs])
  · exact h.enterTimed (StationState.busy_of_open ho) rfl ⟨by simp, by simp [hs]⟩ (fun _ => ho) (by simp)

theorem State.Agrees.enterRiseTest (h : s.Agrees) (hs : (s.station n).state = .evacuating) : (s.enterRiseTest n).Agrees := by
  have ho : (s.station n).state.open = true := by rw [hs]; rfl
  have hm : (s.modStation n fun x =>
      { x with riseRef := (s.channel (suctionChannel n)).reading, copyRise := s.item iPRise }).Agrees :=
    h.modStation (h.station n) rfl id id
  refine hm.enterTimed ?_ rfl ⟨by simp, ?_⟩ ?_ (by simp) <;> rw [State.modStation_station, if_pos rfl] <;> simp only
  · exact StationState.busy_of_open ho
  · simp [hs]
  · exact fun _ => ho

theorem State.Agrees.judgeFill (h : s.Agrees) (n : StationNo) : (s.judgeFill n).Agrees := by
  unfold State.judgeFill
  split
  case isTrue hs =>
    have ho : (s.station n).state.open = true := by rw [hs.1]; rfl
    exact h.enterAbortWeighing _ (StationState.busy_of_open ho) ((h.station n).pierced ho)
  case isFalse => exact h

theorem State.Agrees.enterEvacuating (h : s.Agrees) (b : Bool) (ho : (s.station n).state.open = true)
    (ha : (s.station n).state ≠ .abortWeighing) : (s.enterEvacuating n b).Agrees := by
  have hm : (s.modStation n fun x =>
    { x with
      copyTarget := s.item iPTarget
      copyDwell := s.item iTDwell
      copyFill := s.item (iFill n)
      dwellStart := none
      probeDeadline := if b then some (after s.clock (s.item iTProbe)) else x.probeDeadline }).Agrees :=
    h.modStation (h.station n) rfl id id
  refine State.Agrees.judgeFill (hm.enterTimed ?_ rfl ⟨by simp, ?_⟩ ?_ (by simp)) n <;>
    rw [State.modStation_station, if_pos rfl] <;> simp only
  · exact StationState.busy_of_open ho
  · exact ha
  · exact fun _ => ho

/-! ### Conversions, the probe and the expiries -/

theorem State.Agrees.judgeDwell (h : s.Agrees) (hs : (s.station n).state = .evacuating) : (s.judgeDwell n).Agrees := by
  have hd (d : Option Time) : (s.modStation n fun x => { x with dwellStart := d }).Agrees :=
    h.modStation (h.station n) rfl id id
  unfold State.judgeDwell
  simp only
  split
  · exact hd _
  · split
    · exact hd _
    · split
      · exact hd _
      · split
        · exact h.enterRiseTest hs
        · exact h

theorem State.Agrees.judgeRise (h : s.Agrees) (hs : (s.station n).state = .riseTest) : (s.judgeRise n).Agrees := by
  unfold State.judgeRise
  simp only
  split
  · split
    · split
      · have hm : (s.modStation n fun x => { x with rises := x.rises + 1 }).Agrees := h.modStation (h.station n) rfl id id
        refine hm.enterEvacuating _ ?_ ?_ <;> rw [State.modStation_station, if_pos rfl] <;> simp only [hs]
        · rfl
        · simp
      · split
        · exact h.enterDraining hs
        · exact (h.modRecord_same (Record.flag_same _)).enterDraining hs
    · exact h
  · exact h

theorem State.Agrees.suctionConverted (h : s.Agrees) (n : StationNo) : (s.suctionConverted n).Agrees := by
  unfold State.suctionConverted
  split
  case h_1 hs => exact h.judgeDwell hs
  case h_2 hs => exact h.judgeRise hs
  case h_3 => exact h

theorem State.Agrees.scaleConverted (h : s.Agrees) (n : StationNo) : (s.scaleConverted n).Agrees := by
  unfold State.scaleConverted
  split
  · exact h.judgeFill n
  · exact h.judgeRings n

theorem Record.probed_same (g : Gas) (b : Bool) (r : Record) : r.Same (r.probed g b) := by
  unfold Record.probed
  split <;> exact ⟨rfl, rfl, rfl, rfl, rfl, rfl, rfl⟩

theorem State.Agrees.probeRecord (h : s.Agrees) (i : Slot) (r : Record) (g : Option Gas) : (s.probeRecord i r g).Agrees := by
  unfold State.probeRecord
  split
  case h_1 => exact h
  case h_2 g =>
    have hm : (s.modRecord i fun r => r.probed g (r.mismatches g)).Agrees := h.modRecord_same fun r => Record.probed_same _ _ r
    simp only
    split
    · exact hm.raise _ _ _
    · exact hm

theorem State.probeRecord_station (s : State) (i : Slot) (r : Record) (g : Option Gas) (n : StationNo) :
    (s.probeRecord i r g).station n = s.station n := by
  unfold State.probeRecord
  split
  · rfl
  · simp only
    split <;> rfl

theorem State.Agrees.judgeProbe (h : s.Agrees) (hs : (s.station n).state = .evacuating) (i : Slot) (c : Option Gas)
    (o : ProbeOutcome) : (s.judgeProbe n i c o).Agrees := by
  have hm : (s.modStation n fun x => { x with attemptClass := c }).Agrees := h.modStation (h.station n) rfl id id
  have ho : (s.station n).state.open = true := by rw [hs]; rfl
  have hp := (h.station n).pierced ho
  unfold State.judgeProbe
  simp only
  split
  · refine hm.enterAbortWeighing _ ?_ ?_ <;> rw [State.modStation_station, if_pos rfl]
    · exact StationState.busy_of_open ho
    · exact hp
  · refine (hm.modRecord_same (Record.flag_same _)).enterAbortWeighing _ ?_ ?_ <;>
      rw [State.modRecord_station, State.modStation_station, if_pos rfl]
    · exact StationState.busy_of_open ho
    · exact hp
  · refine hm.modStation ?_ rfl id id
    rw [State.modStation_station, if_pos rfl]
    exact h.station n
  · exact hm

theorem State.Agrees.takeProbe (h : s.Agrees) (hs : (s.station n).state = .evacuating) (pair : BitVec 2) :
    (s.takeProbe n pair).Agrees := by
  have hm : (s.modStation n fun x => { x with probeTaken := true, probeDeadline := none }).Agrees :=
    h.modStation (h.station n) rfl id id
  unfold State.takeProbe
  simp only
  split
  · exact hm
  · split
    · exact hm
    · refine (hm.probeRecord _ _ _).judgeProbe ?_ _ _ _
      rw [State.probeRecord_station, State.modStation_station, if_pos rfl]
      exact hs

theorem State.Agrees.analyserSeen (h : s.Agrees) (n : StationNo) (pair : BitVec 2) : (s.analyserSeen n pair).Agrees :=
  h.of_same ⟨rfl, rfl, rfl, rfl, rfl, rfl⟩

theorem State.Agrees.probeExpired (h : s.Agrees) (n : StationNo) (pair : BitVec 2) : (s.probeExpired n pair).Agrees := by
  unfold State.probeExpired
  split
  case isTrue hs => exact (h.analyserSeen n pair).takeProbe hs.1 pair
  case isFalse => exact h

theorem State.expires_state {x : StationState} (h : s.expires n x = true) : (s.station n).state = x := by
  simp only [State.expires, Bool.and_eq_true, beq_iff_eq] at h
  exact h.1

theorem State.Agrees.evacTimedOut (h : s.Agrees) (n : StationNo) : (s.evacTimedOut n).Agrees := by
  unfold State.evacTimedOut
  split
  case isTrue hs =>
    split
    · exact h.enterRiseTest hs
    · exact (h.modRecord_same (Record.flag_same _)).enterRiseTest hs
  case isFalse => exact h

theorem State.Agrees.evacExpired (h : s.Agrees) (n : StationNo) (pair : BitVec 2) : (s.evacExpired n pair).Agrees := by
  unfold State.evacExpired
  split
  case isTrue he =>
    split
    · exact h.evacTimedOut n
    · exact ((h.analyserSeen n pair).takeProbe (State.expires_state he) pair).evacTimedOut n
  case isFalse => exact h

theorem State.Agrees.pierceExpired (h : s.Agrees) (n : StationNo) : (s.pierceExpired n).Agrees := by
  unfold State.pierceExpired
  split
  case isTrue he => exact h.enterEvacuating true (by rw [State.expires_state he]; rfl) (by simp [State.expires_state he])
  case isFalse => exact h

theorem State.Agrees.riseExpired (h : s.Agrees) (n : StationNo) : (s.riseExpired n).Agrees := by
  unfold State.riseExpired
  split
  case isTrue he => exact h.enterDraining (State.expires_state he)
  case isFalse => exact h

theorem State.Agrees.drainExpired (h : s.Agrees) (n : StationNo) : (s.drainExpired n).Agrees := by
  unfold State.drainExpired
  split
  case isTrue he => exact h.enterWeighing (by rw [State.expires_state he]; rfl) (by simp [State.expires_state he])
  case isFalse => exact h

theorem State.Agrees.settleExpired (h : s.Agrees) (n : StationNo) : (s.settleExpired n).Agrees := by
  unfold State.settleExpired
  split
  · exact h.weigh n _ _ _
  · exact h

/-! ### Aborts, faults, the clamp and STOP (R43 to R46, R54) -/

theorem State.returnBound_eq (hb : (s.station n).bound = some i) : s.returnBound n = s.modRecord i Record.unbind := by
  simp [State.returnBound, hb]

theorem State.Agrees.faultUnpierced (h : s.Agrees) (hb : (s.station n).state.busy = true) (c : FaultCause) :
    (s.faultUnpierced n c).Agrees := by
  obtain ⟨i, hi⟩ := h.bound_of_busy hb
  unfold State.faultUnpierced
  rw [State.returnBound_eq hi]
  exact h.endFaulted hi c _

theorem State.Agrees.abort (h : s.Agrees) (hb : (s.station n).state.busy = true) (c : EndCause) : (s.abort n c).Agrees := by
  obtain ⟨i, hi⟩ := h.bound_of_busy hb
  unfold State.abort
  split
  case isTrue hp => exact h.enterAbortWeighing c hb hp
  case isFalse =>
    rw [State.returnBound_eq hi]
    exact h.endAwait hi Record.unbind_spec

theorem StationState.busy_of_running {x : StationState} (h : x.running = true) : x.busy = true := by
  simp [StationState.busy, h]

theorem State.Agrees.stationStop (h : s.Agrees) (n : StationNo) : (s.stationStop n).Agrees := by
  unfold State.stationStop
  split
  case isTrue hr =>
    simp only [Bool.and_eq_true] at hr
    exact h.abort (StationState.busy_of_running hr.2) _
  case isFalse => exact h

/-- A station without an appliance, once more in AWAIT_UNCLAMP or IDLE. -/
theorem State.Agrees.enterAwait_unbound (h : s.Agrees) (hb : (s.station n).bound = none) (hf : (s.station n).faultCause = none)
    (hi : (s.station n).state ≠ .idle) : (s.enterAwait n).Agrees := by
  rw [State.enterAwait_eq]
  exact h.modStation (Station.awaiting_law _ (h.station n).tares hf) hb.symm id (absurd · hi)

theorem State.Agrees.clampClosed (h : s.Agrees) (n : StationNo) : (s.clampClosed n).Agrees := by
  have hpin : State.Agrees { s with pins := { s.pins with clamp := s.pins.clamp.set n true } } :=
    h.of_same ⟨rfl, rfl, rfl, rfl, rfl, rfl⟩
  unfold State.clampClosed
  simp only
  split
  · exact h
  · split
    case isTrue hs => exact hpin.enterTaring hs
    case isFalse => exact hpin

theorem State.Agrees.clampOpen (h : s.Agrees) (n : StationNo) : (s.clampOpen n).Agrees := by
  have hpin : State.Agrees { s with pins := { s.pins with clamp := s.pins.clamp.set n false } } :=
    h.of_same ⟨rfl, rfl, rfl, rfl, rfl, rfl⟩
  have stop (x : StationState) (hs : (s.station n).state = x) (hx : x.running = true) :=
    (hpin.abort (n := n) (StationState.busy_of_running (hs ▸ hx)) .clampOpened).raise (srcStationFault n)
      ((s.station n).bound.map Fin.val) (some (.fault .clampOpened))
  unfold State.clampOpen
  simp only
  split
  · exact h
  · split
    case h_1 hs => exact stop _ hs rfl
    case h_2 hs => exact stop _ hs rfl
    case h_3 hs => exact stop _ hs rfl
    case h_4 hs => exact stop _ hs rfl
    case h_5 hs => exact stop _ hs rfl
    case h_6 hs =>
      have hlaw := h.station n
      have hb : (s.station n).bound.isSome = false := hlaw.bound_iff.trans (by rw [hs]; rfl)
      have hi : (s.station n).state ≠ .idle := by simp [hs]
      exact hpin.enterAwait_unbound (Option.isSome_eq_false_iff.mp hb |> Option.isNone_iff_eq_none.mp)
        (hlaw.no_fault (by simp [hs])) hi
    case h_7 => exact hpin

end Stations

end Sys2Proof.Machine
end

section
/-! The tick, the passes, the atmosphere and the line keep the agreement (chapters 4, 5, 7, 10): what they do to a record, to
the table and to the Feeder is put together from the moves already judged. -/

namespace Sys2Proof.Machine

/-- A relation that every step of a fold keeps. -/
theorem foldl_keeps {α : Type} {P : State → Prop} {f : State → α → State} (hf : ∀ s a, P s → P (f s a)) (l : List α) {s : State}
    (h : P s) : P (l.foldl f s) := by
  induction l generalizing s with
  | nil => exact h
  | cons a l ih => exact ih (hf s a h)

section Blocks

variable {s : State} {i : Slot} {r : Record}

/-! ### Closing (R18, R19, R103) -/

theorem State.closeSlot_feeder (s : State) (i : Slot) : (s.closeSlot i).feeder = s.feeder := by
  rw [s.closeSlot_frame i]

theorem State.Agrees.closeSlot (h : s.Agrees) (hr : s.record i = some r) (hp : r.phase = .shredding) :
    (s.closeSlot i).Agrees := by
  refine ⟨h.toCore.closeSlot hr (by simp [hp]), ?_⟩
  have hi : i ∉ s.table.shredQueue := by
    rw [h.filed.shred.2 i, State.phaseAt_some hr, hp]; simp
  have hq : s.table.shredQueue.filter (· != i) = s.table.shredQueue := by
    simpa using fun j hj => ne_of_mem_of_not_mem hj hi
  rw [State.feederLaw, State.closeSlot_table hr, State.closeSlot_feeder, hq]
  exact h.gate

theorem State.closeSlot_refiled (hr : s.record i = some r) : s.Refiled (s.closeSlot i) i (some (r.close s.clock)) :=
  State.put_refiled (by rw [State.closeSlot_table hr])

theorem Record.foamOutcome_same (g : Nat) (r : Record) : r.Same (r.foamOutcome g) := by
  unfold Record.foamOutcome
  split <;> exact ⟨rfl, rfl, rfl, rfl, rfl, rfl, rfl⟩

theorem Record.foamOutcome_phase (g : Nat) (r : Record) : (r.foamOutcome g).phase = r.phase := by
  obtain ⟨-, -, -, -, -, hp, -⟩ := Record.foamOutcome_same g r
  exact hp

/-- The record a closing window is left with (R18, R104). -/
theorem State.closeWindow_refiled (hr : s.record i = some r) :
    s.Refiled (s.closeWindow i) i (some ((r.foamOutcome (s.item iGammaMin)).close s.clock)) := by
  intro j
  have hr' : (s.modRecord i fun r => r.foamOutcome (s.item iGammaMin)).record i = some (r.foamOutcome (s.item iGammaMin)) := by
    simp [hr]
  have hc := State.closeSlot_refiled hr' j
  rw [State.closeWindow, hc]
  split
  case isTrue => rfl
  case isFalse hij => simp [hij]

theorem State.Agrees.closeWindow (h : s.Agrees) (hp : s.phaseAt i = some .shredding) : (s.closeWindow i).Agrees := by
  obtain ⟨r, hr, hp⟩ := Option.map_eq_some_iff.mp hp
  exact (h.modRecord_same (Record.foamOutcome_same _)).closeSlot (r := r.foamOutcome (s.item iGammaMin)) (by simp [hr])
    (by rw [Record.foamOutcome_phase, hp])

theorem State.closeWindow_phaseAt (hp : s.phaseAt i = some .shredding) {j : Slot} (hij : i ≠ j) :
    (s.closeWindow i).phaseAt j = s.phaseAt j := by
  obtain ⟨r, hr, -⟩ := Option.map_eq_some_iff.mp hp
  rw [(State.closeWindow_refiled hr).phaseAt j, if_neg hij]

theorem State.Agrees.closeWindows {l : List Slot} (h : s.Agrees) (hn : l.Nodup)
    (hp : ∀ i ∈ l, s.phaseAt i = some .shredding) : (l.foldl State.closeWindow s).Agrees := by
  induction l generalizing s with
  | nil => exact h
  | cons i l ih =>
    obtain ⟨hi, hn⟩ := List.nodup_cons.mp hn
    have hpi := hp i (by simp)
    refine ih (h.closeWindow hpi) hn fun j hj => ?_
    rw [State.closeWindow_phaseAt hpi (ne_of_mem_of_not_mem hj hi).symm]
    exact hp j (List.mem_cons_of_mem i hj)

/-! ### The tick (R94 to R106) -/

theorem Record.countDown_same (r : Record) : r.Same r.countDown :=
  ⟨rfl, rfl, rfl, rfl, rfl, rfl, by simp [Record.countDown]⟩

theorem State.Agrees.countWindows (h : s.Agrees) : s.countWindows.Agrees := by
  have ht := h.modRecords_same Record.countDown_same s.table.openSet
  refine ht.closeWindows (ht.filed.opened.1.filter _) fun i hi => (ht.filed.opened.2 i).mp ?_
  exact List.mem_of_mem_filter hi

theorem State.Agrees.addTotal (h : s.Agrees) (i : TotalNo) (n : Nat) : (s.addTotal i n).Agrees := by
  have hf := s.addTotal_frame i n
  unfold CloseFrame at hf
  rw [hf]
  exact h.of_same ⟨s.addTotal_table i n, rfl, rfl, rfl, rfl, rfl⟩

/-- A member of the open set after parts 5 and 6 of a tick (R100, R101). -/
def Record.ticked (gap drain : Bool) (n : Nat) (r : Record) : Record :=
  ((r.flagIf gap .sensorGap).flagIf drain .drainGap).gain n

theorem Record.ticked_same (gap drain : Bool) (n : Nat) (r : Record) : r.Same (r.ticked gap drain n) :=
  ⟨rfl, rfl, rfl, rfl, rfl, rfl, rfl⟩

theorem State.divide_eq (s : State) (gap drain : Bool) (d : Nat) : s.divide gap drain d = s.table.openSet.foldl
    (fun t i => t.modRecord i (Record.ticked gap drain (if s.divides then s.given d i else 0))) s := rfl

theorem State.Agrees.divide (h : s.Agrees) (gap drain : Bool) (d : Nat) : (s.divide gap drain d).Agrees := by
  rw [State.divide_eq]
  exact foldl_keeps (fun _ _ ht => State.Agrees.modRecord_same ht (Record.ticked_same _ _ _)) _ h

theorem State.Agrees.foam (h : s.Agrees) (f : Foam) : State.Agrees { s with foam := f } :=
  h.of_same ⟨rfl, rfl, rfl, rfl, rfl, rfl⟩

theorem State.Agrees.tickGain (h : s.Agrees) (x : Option Nat) : (s.tickGain x).Agrees :=
  ((((h.foam _).divide _ _ _).addTotal _ _).addTotal _ _).addTotal _ _

theorem State.Agrees.judgeBreakthrough (h : s.Agrees) (x : TickReadings) : (s.judgeBreakthrough x).Agrees :=
  (h.foam _).report _ _ _ _

theorem State.Agrees.markBreakthrough (h : s.Agrees) : s.markBreakthrough.Agrees := by
  unfold State.markBreakthrough
  split
  · exact h.modRecords_same (Record.flag_same _) _
  · exact h

theorem State.Agrees.tick (h : s.Agrees) (x : TickReadings) : (s.tick x).Agrees := by
  have ht := (((h.judgeBreakthrough x).tickGain x.vessel).countWindows.markBreakthrough)
  unfold State.tick
  simp only
  split
  · exact ht.foam _
  · exact (ht.foam _).judgePermit

theorem State.Agrees.tickStep (h : s.Agrees) : s.tickStep.Agrees := by
  unfold State.tickStep
  split
  · exact h
  · exact h.tick _

theorem State.Agrees.attributionPass (h : s.Agrees) (m a : Bool) : (s.attributionPass m a).Agrees := by
  unfold State.attributionPass
  split
  · split
    · exact h
    · exact h.tickStep
  · exact h.judgeBreakthrough _

/-! ### The atmosphere (R83 to R91) -/

/-- A change of the atmosphere that keeps trip causes with TRIPPED (R83). -/
theorem State.Agrees.setAtmosphere {a : Atmosphere} (h : s.Agrees) (ha : a.tripCauses.isSome ↔ a.state = .tripped) :
    State.Agrees { s with atm := a } :=
  ⟨⟨h.filed.of_table rfl, h.station, h.bond, h.unfitted, ha⟩, h.gate⟩

/-- A change of the atmosphere in its readings, hold, margin and duty alone. -/
theorem State.Agrees.keepAtmosphere {a : Atmosphere} (h : s.Agrees) (hs : a.state = s.atm.state)
    (hc : a.tripCauses = s.atm.tripCauses) : State.Agrees { s with atm := a } := by
  refine h.setAtmosphere ?_
  rw [hs, hc]
  exact h.trip

theorem State.Agrees.setAtm (h : s.Agrees) {x : AtmState} (hx : x ≠ .tripped) (hs : s.atm.state ≠ .tripped) :
    (s.setAtm x).Agrees := by
  refine h.setAtmosphere ?_
  simp [hx, mt h.trip.mp hs]

theorem State.Agrees.marginRegained (h : s.Agrees) : s.marginRegained.Agrees :=
  (h.keepAtmosphere (a := { s.atm with marginLost := false }) rfl rfl).report _ _ _ _

theorem State.Agrees.enterSafe (h : s.Agrees) {x : AtmState} (hx : x ≠ .tripped) (hs : s.atm.state ≠ .tripped) :
    (s.enterSafe x).Agrees := (h.setAtm hx hs).marginRegained

theorem State.Agrees.dropHold (h : s.Agrees) : s.dropHold.Agrees := h.keepAtmosphere rfl rfl

theorem State.Agrees.runHold (h : s.Agrees) {x : AtmState} (hx : x ≠ .tripped) (hs : s.atm.state ≠ .tripped) :
    (s.runHold x).Agrees := by
  unfold State.runHold
  split
  · exact h.keepAtmosphere rfl rfl
  · split
    · exact h.enterSafe hx hs
    · exact h

theorem State.Agrees.loseMargin (h : s.Agrees) (hs : s.atm.state ≠ .tripped) (m : Margin) : (s.loseMargin m).Agrees :=
  ((h.setAtm (x := .inerting) (by simp) hs).keepAtmosphere
    (a := { (s.setAtm .inerting).atm with marginLost := true }) rfl rfl).report _ _ _ _

theorem State.Agrees.atmTransition (h : s.Agrees) (r : AtmReadings) (d : Bool) : (s.atmTransition r d).Agrees := by
  unfold State.atmTransition
  simp only
  split
  case h_1 hs =>
    split
    · exact h.setAtm (by simp) (by simp [hs])
    · exact h
  case h_2 hs =>
    split
    · exact h.enterSafe (by simp) (by simp [hs])
    · split
      · exact h.runHold (by simp) (by simp [hs])
      · exact h.dropHold
  case h_3 hs =>
    split
    · exact h.enterSafe (by simp) (by simp [hs])
    · split
      · exact h.loseMargin (by simp [hs]) _
      · exact h
  case h_4 hs =>
    split
    · exact h.runHold (by split <;> simp) (by simp [hs])
    · exact h.dropHold
  case h_5 => exact h

theorem State.Agrees.enterTripped (h : s.Agrees) (c : TripCauses) : (s.enterTripped c).Agrees := by
  have ht : State.Agrees { s with atm := { s.atm with
      state := .tripped, tripCauses := some c, holdStart := none, holdLength := none } } := h.setAtmosphere (by simp)
  exact ((ht.marginRegained.feederHalt _).modRecords_same (Record.flag_same _) _).raise _ _ _

theorem State.Agrees.writeDuty (h : s.Agrees) (x : Int) : (s.writeDuty x).Agrees := h.of_same ⟨rfl, rfl, rfl, rfl, rfl, rfl⟩

theorem Atmosphere.supervise_same (a : Atmosphere) (now : Time) (l f m : Nat) :
    (a.supervise now l f m).state = a.state ∧ (a.supervise now l f m).tripCauses = a.tripCauses := by
  unfold Atmosphere.supervise
  split
  · exact ⟨rfl, rfl⟩
  · split
    · exact ⟨rfl, rfl⟩
    · split <;> exact ⟨rfl, rfl⟩

theorem State.Agrees.superviseFlow (h : s.Agrees) : s.superviseFlow.Agrees := by
  obtain ⟨hs, hc⟩ := s.atm.supervise_same s.clock (s.item iTNf) s.flowRate (s.item iFMin)
  have ht : State.Agrees { s with
      atm := s.atm.supervise s.clock (s.item iTNf) s.flowRate (s.item iFMin), flow := { s.flow with unused := false } } :=
    h.of_same ⟨rfl, rfl, rfl, rfl, hs, hc⟩
  exact ht.report _ _ _ _

/-- The controller with the readings and the demand of a pass (R83, R85). -/
def State.atmReads (s : State) : State := { s with atm := { s.atm with latest := some s.readingsNow, demand := s.demandNow } }

/-- The trip test and the transition of a pass (R86 to R89). -/
def State.atmMoves (s : State) : State :=
  if s.atm.state = .tripped then s.atmReads
  else if (s.atmReads.tripNow s.readingsNow s.demandNow).any
    then s.atmReads.enterTripped (s.atmReads.tripNow s.readingsNow s.demandNow)
  else s.atmReads.atmTransition s.readingsNow s.demandNow

theorem State.atmospherePass_eq (s : State) : s.atmospherePass
    = ((if s.atmMoves.atm.state = s.atm.state then s.atmMoves else s.atmMoves.judgePermit).writeDuty
        s.readingsNow.o2).superviseFlow := rfl

theorem State.Agrees.atmMoves (h : s.Agrees) : s.atmMoves.Agrees := by
  have ht : s.atmReads.Agrees := h.keepAtmosphere rfl rfl
  unfold State.atmMoves
  split
  · exact ht
  · split
    · exact ht.enterTripped _
    · exact ht.atmTransition _ _

theorem State.Agrees.atmospherePass (h : s.Agrees) : s.atmospherePass.Agrees := by
  rw [State.atmospherePass_eq]
  refine State.Agrees.superviseFlow (State.Agrees.writeDuty ?_ _)
  split
  · exact h.atmMoves
  · exact h.atmMoves.judgePermit

/-! ### Conversions and passes (R122 to R125) -/

theorem State.Agrees.judgeChannels (h : s.Agrees) : s.judgeChannels.Agrees := h.report _ _ _ _

theorem State.Agrees.stationConverted (h : s.Agrees) (c : Fin 8) : (s.stationConverted c).Agrees := by
  unfold State.stationConverted
  simp only
  split
  · exact h.scaleConverted _
  · exact h.suctionConverted _

theorem State.Agrees.groupAConverted (h : s.Agrees) (r : Raw) : (s.groupAConverted r).Agrees := by
  unfold State.groupAConverted
  refine State.Agrees.stationConverted (State.Agrees.judgeChannels ?_) _
  exact h.of_same ⟨rfl, rfl, rfl, rfl, rfl, rfl⟩

theorem State.Agrees.takePass (h : s.Agrees) (raw : Vector Raw 8) : (s.takePass raw).Agrees :=
  foldl_keeps (fun _ _ ht => ht.of_same ⟨rfl, rfl, rfl, rfl, rfl, rfl⟩) _ h

theorem State.Agrees.passConverted (h : s.Agrees) (p : Pass) (raw : Vector Raw 8) : (s.passConverted p raw).Agrees :=
  State.Agrees.judgeChannels ((h.takePass raw).of_same ⟨rfl, rfl, rfl, rfl, rfl, rfl⟩)

theorem State.Agrees.stationsPass (h : s.Agrees) : s.stationsPass.Agrees := by
  refine foldl_keeps (fun t n ht => ?_) _ h
  split
  · exact ht.judgeRings n
  · exact ht

theorem State.Agrees.judgeVessel (h : s.Agrees) : s.judgeVessel.Agrees := h.report _ _ _ _

theorem State.Agrees.readPass (h : s.Agrees) (m a : Bool) (x : PassReader) : (s.readPass m a x).Agrees := by
  cases x with
  | atmosphere => exact h.atmospherePass
  | attribution => exact h.attributionPass m a
  | feeder => exact h.judgeVessel.judgePermit
  | stations => exact h.stationsPass

theorem State.Agrees.passCompleted (h : s.Agrees) (raw : Vector Raw 8) (first : List PassReader) (a : Bool) :
    (s.passCompleted raw first a).Agrees := by
  unfold State.passCompleted
  split
  · exact h
  · exact foldl_keeps (fun _ x ht => ht.readPass _ _ x) _ (h.passConverted _ _)

/-! ### Timing and configuration -/

theorem State.Agrees.periodExpire (h : s.Agrees) : s.periodExpire.Agrees := h.of_same ⟨rfl, rfl, rfl, rfl, rfl, rfl⟩

theorem State.Agrees.periodExpired (h : s.Agrees) : s.periodExpired.Agrees := by
  unfold State.periodExpired
  split
  · exact h.periodExpire
  · exact h

theorem State.Agrees.pwmPeriodEnded (h : s.Agrees) : s.pwmPeriodEnded.Agrees := by
  unfold State.pwmPeriodEnded
  split
  · exact h.of_same ⟨rfl, rfl, rfl, rfl, rfl, rfl⟩
  · exact h

theorem State.Agrees.onTimeEnded (h : s.Agrees) : s.onTimeEnded.Agrees := by
  unfold State.onTimeEnded
  split
  · exact h.of_same ⟨rfl, rfl, rfl, rfl, rfl, rfl⟩
  · exact h

theorem State.Agrees.itemEffect (h : s.Agrees) (i : Item) : (s.itemEffect i).Agrees := by
  have hperiod : s.newPeriod.Agrees := by
    unfold State.newPeriod
    split
    · exact h
    · split
      · exact h.periodExpire
      · exact h.of_same ⟨rfl, rfl, rfl, rfl, rfl, rfl⟩
  unfold State.itemEffect
  split
  · exact hperiod
  · split
    · exact h.of_same ⟨rfl, rfl, rfl, rfl, rfl, rfl⟩
    · split
      · exact h.of_same ⟨rfl, rfl, rfl, rfl, rfl, rfl⟩
      · split
        · exact h.judgeVessel.judgePermit
        · exact h

theorem State.Agrees.idle (h : s.Agrees) : s.idle.Agrees := by
  unfold State.idle
  split
  · exact h.of_same ⟨rfl, rfl, rfl, rfl, rfl, rfl⟩
  · exact h.of_same ⟨rfl, rfl, rfl, rfl, rfl, rfl⟩

/-! ### The line and the resets (R24, R45, R166 to R177) -/

theorem State.Agrees.setLine (h : s.Agrees) (l : LineState) : (s.setLine l).Agrees :=
  State.Agrees.judgePermit (h.of_same ⟨rfl, rfl, rfl, rfl, rfl, rfl⟩)

theorem State.Agrees.stopLine (h : s.Agrees) : s.stopLine.Agrees := by
  unfold State.stopLine State.enterStop
  split
  · exact h
  · have ht : State.Agrees { s with line := { s.line with state := .stop } } := h.of_same ⟨rfl, rfl, rfl, rfl, rfl, rfl⟩
    have hs := foldl_keeps (P := State.Agrees) (f := State.stationStop) (fun _ n hu => State.Agrees.stationStop hu n) (List.finRange 4) ht
    exact (hs.feederHalt _).judgePermit

theorem State.Agrees.emergencyOn (h : s.Agrees) : s.emergencyOn.Agrees := by
  have ht : State.Agrees { s with pins := { s.pins with emergencyStop := true } } := h.of_same ⟨rfl, rfl, rfl, rfl, rfl, rfl⟩
  unfold State.emergencyOn
  simp only
  split
  · exact ht
  · have hm : State.Agrees { s with
        pins := { s.pins with emergencyStop := true }, line := { s.line with emergencyMark := true } } :=
      h.of_same ⟨rfl, rfl, rfl, rfl, rfl, rfl⟩
    exact (hm.raise srcEmergency none (some (.line s.line.state))).stopLine

/-- A state with an empty table and stations that hold nothing, the Feeder IDLE. -/
theorem State.agrees_of_empty (ht : s.table = tableReset)
    (hs : ∀ n, (s.station n).law ∧ (s.station n).bound = none ∧ (s.fitted n = false → (s.station n).state = .idle))
    (hf : s.feeder.state = .idle ∧ s.feeder.jam = none ∧ s.feeder.deadline = none)
    (ha : s.atm.tripCauses.isSome ↔ s.atm.state = .tripped) : s.Agrees := by
  have hrec (j : Slot) : s.record j = none := by simp [State.record, ht, tableReset]
  have hempty (p : Phase) : s.Collects [] p := ⟨List.nodup_nil, fun j => by simp [State.phaseAt, hrec]⟩
  obtain ⟨hidle, hjam, hdl⟩ := hf
  have hfiled : s.Filed := by
    constructor
    case ok => simp [hrec]
    case unique => simp [hrec]
    all_goals rw [ht]
    case room => simp [tableReset]
    all_goals exact hempty _
  refine ⟨⟨hfiled, fun n => (hs n).1, ⟨fun n i hi => ?_, fun i r hr => ?_⟩, fun n => (hs n).2.2, ha⟩, ?_⟩
  · simp [(hs n).2.1] at hi
  · simp [hrec] at hr
  · simp [State.feederLaw, hidle, hjam, hdl, ht, tableReset]

theorem stationReset_law : stationReset.law := by decide

theorem State.agrees_fresh (a : BitVec 5) (f x : Bool) : (State.fresh a f x).Agrees := by
  have hst (n : StationNo) : (State.fresh a f x).station n = stationReset := by simp [State.station, State.fresh]
  refine State.agrees_of_empty rfl (fun n => ?_) ⟨rfl, rfl, rfl⟩ (by simp [State.fresh, atmReset])
  rw [hst]
  exact ⟨stationReset_law, rfl, fun _ => rfl⟩

theorem State.agrees_deviceReset (s : State) (a : BitVec 5) (f x : Bool) : (s.deviceReset a f x).Agrees :=
  (State.agrees_fresh (sampledAddress a) f x).of_same ⟨rfl, rfl, rfl, rfl, rfl, rfl⟩

theorem State.clearable_iff (s : State) : s.clearable = true ↔
    (∀ n, s.fitted n = true → (s.station n).state = .idle ∨ (s.station n).state = .faulted) ∧ s.feeder.state = .idle := by
  simp only [State.clearable, Bool.and_eq_true, List.all_eq_true, Bool.or_eq_true, Bool.not_eq_true', beq_iff_eq]
  refine and_congr_left' ⟨fun h n hn => ?_, fun h n _ => ?_⟩
  · simpa [hn] using h n (List.mem_finRange n)
  · cases hn : s.fitted n with
    | false => simp
    | true => simpa using h n hn

/-- A station that CLEAR LINE leaves: IDLE or FAULTED before, it holds no appliance and has its law (R54). -/
theorem Station.clear_law {x : Station} (h : x.law) (hs : x.state = .idle ∨ x.state = .faulted) : x.clear.law ∧ x.bound = none := by
  have hbusy : x.state.busy = false := by rcases hs with hs | hs <;> rw [hs] <;> rfl
  obtain ⟨hb, hd, -⟩ := h
  have hb : x.bound = none := by simpa [hbusy] using hb
  have hd : x.deadline = none := by simpa [hbusy] using hd
  have hidle : x.clear.state = .idle := by
    rcases hs with hs | hs <;> simp [Station.clear, hs]
  refine ⟨?_, hb⟩
  rw [Station.law, hidle]
  simp [Station.clear, stationReset, hb, hd, StationState.open]
  decide

theorem State.clearLine_station (s : State) (n : StationNo) : s.clearLine.station n = (s.station n).clear := by
  show (s.stations.map Station.clear)[n] = (s.stations[n]).clear
  simp

theorem State.Agrees.clearLine (h : s.Agrees) (hc : s.clearable = true) : s.clearLine.Agrees := by
  obtain ⟨hst, hidle⟩ := s.clearable_iff.mp hc
  obtain ⟨-, -, -, -, hj, hd⟩ := h.gate
  have hj : s.feeder.jam = none := by simpa [hidle] using hj
  have hd : s.feeder.deadline = none := by simpa [hidle] using hd
  refine State.agrees_of_empty rfl (fun n => ?_) ⟨hidle, hj, hd⟩ h.trip
  have hn : (s.station n).state = .idle ∨ (s.station n).state = .faulted := by
    cases hf : s.fitted n with
    | false => exact .inl (h.unfitted n hf)
    | true => exact hst n hf
  rw [State.clearLine_station]
  obtain ⟨hlaw, hb⟩ := Station.clear_law (h.station n) hn
  refine ⟨hlaw, hb, fun hf => ?_⟩
  have hi := h.unfitted n hf
  simp [Station.clear, hi]

end Blocks

end Sys2Proof.Machine
end

section
/-! What each request's owner can do, said once: it refuses and leaves the state, or it acts (R184, R187). And what the
actions of the table, the stations and the Feeder do to the agreement. -/

namespace Sys2Proof.Machine

/-! ### Refusing and acting -/

/-- The status of a refusal: neither DONE nor ACCEPTED (R187). -/
def Status.refusal (x : Status) : Prop := x ≠ .done ∧ x ≠ .accepted

/-- An owner's answer that either refuses and leaves the state, or does not refuse and leaves a state with `Q`. -/
def ActsAt (s : State) (x : State × Answer) (Q : State → Prop) : Prop :=
  (x.1 = s ∧ x.2.status.refusal) ∨ (¬x.2.status.refusal ∧ Q x.1)

/-- An owner that either refuses and leaves the state, or does not refuse and moves it as `Q` says. -/
def Acts (owner : State → State × Answer) (Q : State → State → Prop) : Prop := ∀ s, ActsAt s (owner s) (Q s)

section Acts

variable {owner : State → State × Answer} {Q : State → State → Prop} {s t : State}

/-- A refused request leaves the state as it is. -/
theorem Acts.refused (h : Acts owner Q) (hr : (owner s).2.status.refusal) : (owner s).1 = s := by
  rcases h s with ⟨hs, -⟩ | ⟨hn, -⟩
  · exact hs
  · exact absurd hr hn

/-- What an owner's action keeps, its answer keeps. -/
theorem Acts.keeps {P : State → Prop} (h : Acts owner Q) (hQ : ∀ s t, P s → Q s t → P t) (hs : P s) : P (owner s).1 := by
  rcases h s with ⟨he, -⟩ | ⟨-, hq⟩
  · rw [he]; exact hs
  · exact hQ _ _ hs hq

theorem ActsAt.refuse {x : State × Answer} {Q : State → Prop} {st : Status} (h : x = (s, bare st))
    (hst : st.refusal := by exact ⟨nofun, nofun⟩) : ActsAt s x Q := by
  subst h; exact .inl ⟨rfl, hst⟩

theorem ActsAt.act {x : State × Answer} {Q : State → Prop} {a : Answer} (h : x = (t, a)) (hQ : Q t)
    (ha : a.status = .done ∨ a.status = .accepted) : ActsAt s x Q := by
  subst h
  refine .inr ⟨fun hr => ?_, hQ⟩
  rcases ha with ha | ha
  · exact hr.1 ha
  · exact hr.2 ha

end Acts

/-! ### The Appliance Table's requests -/

theorem State.lowestEmpty_some {s : State} {i : Slot} (h : s.lowestEmpty = some i) : s.record i = none := by
  simpa using List.find?_some h

theorem State.findIdent_eq_none {s : State} {id : Word} (h : s.findIdent id = none) {j : Slot} {q : Record}
    (hq : s.record j = some q) : q.ident ≠ id := by
  have h' := List.find?_eq_none.mp h j (by simp [allSlots])
  simpa [hq] using h'

theorem ansAdmit_acts (id : Word) (dc : Byte) (c : Word) (fcc fac : Byte) :
    Acts (ansAdmit id dc c fcc fac) fun s t => ∃ i d fc fa, id ≠ 0 ∧ s.findIdent id = none ∧ s.record i = none
      ∧ t = s.enrol i (s.newRecord i id d c fc fa) := by
  intro s
  unfold ansAdmit
  split
  · exact .refuse rfl
  case isFalse h0 =>
  split
  case h_2 => exact .refuse rfl
  case h_1 d fc fa _ _ _ =>
  split
  · exact .refuse rfl
  case isFalse hid =>
  split
  · exact .refuse rfl
  case h_2 i hi => exact .act rfl ⟨i, d, fc, fa, h0, by simpa using hid, State.lowestEmpty_some hi, rfl⟩ (.inl rfl)

theorem ansQuery_acts (sel : Byte) (key : Word) : Acts (ansQuery sel key) fun s t => t = s := by
  intro s
  unfold ansQuery
  repeat' split
  all_goals simp [ActsAt, Status.refusal, bare, doneWith]

theorem ansListTable_acts : Acts ansListTable fun s t => t = s := fun _ => ActsAt.act rfl rfl (.inl rfl)

theorem ansWithdraw_acts (id : Word) : Acts (ansWithdraw id) fun s t => ∃ i r, s.record i = some r
    ∧ (r.phase = .queued ∨ r.phase = .extracted ∨ r.phase = .shredWait) ∧ t = s.withdrawSlot i := by
  intro s
  unfold ansWithdraw
  split
  · exact .refuse rfl
  split
  · exact .refuse rfl
  case h_2 i hid =>
  obtain ⟨r, hr, -⟩ := State.findIdent_some hid
  cases hp : r.phase <;> simp only [hr, Option.map_some, hp]
  case queued | extracted | shredWait => exact .act rfl ⟨i, r, hr, by simp [hp], rfl⟩ (.inl rfl)
  all_goals exact .refuse rfl

theorem ansRelease_acts (id : Word) : Acts (ansRelease id) fun s t => ∃ i r, s.record i = some r ∧ r.phase = .extracted
    ∧ t = (s.release i).judgeIdle := by
  intro s
  unfold ansRelease
  split
  · exact .refuse rfl
  split
  · exact .refuse rfl
  case h_2 i hid =>
  split
  case isTrue hp =>
    obtain ⟨r, hr, hp⟩ := Option.map_eq_some_iff.mp hp
    exact .act rfl ⟨i, r, hr, hp, rfl⟩ (.inl rfl)
  case isFalse => exact .refuse rfl

theorem ansTakeClosed_acts (tag : Byte) : Acts (ansTakeClosed tag) fun s t => t = s ∨ t = s.takeClosed tag := by
  intro s
  refine .act rfl ?_ (.inl rfl)
  split
  · exact .inl rfl
  · exact .inr rfl

/-! ### The stations' requests -/

/-- What the checks of BEGIN EXTRACTION establish (R29). -/
theorem State.beginCheck_ok {s : State} {n : StationNo} {id : Word} {i : Slot} (h : s.beginCheck n id = .ok i) :
    s.line.state = .run ∧ s.fitted n = true ∧ (s.station n).state = .idle
      ∧ ∃ r, s.record i = some r ∧ r.phase = .queued ∧ r.attempts < 2 := by
  unfold State.beginCheck at h
  split at h
  · cases h
  case isFalse hl =>
  split at h
  · cases h
  case isFalse hf =>
  split at h
  · cases h
  case isFalse hs =>
  split at h
  · cases h
  case h_2 j hj =>
  split at h
  · cases h
  case h_2 r hr =>
  simp only at h
  split at h
  · cases h
  case isFalse hp =>
  split at h
  · cases h
  case isFalse ha =>
  split at h
  · cases h
  · split at h
    · cases h
      exact ⟨not_not.mp hl, by simpa using hf, not_not.mp hs, r, hr, not_not.mp hp, by omega⟩
    · cases h

/-- What BEGIN EXTRACTION's checks can answer (R29). -/
theorem State.beginCheck_error {s : State} {n : StationNo} {id : Word} {st : Status} (h : s.beginCheck n id = .error st) :
    st.refusal := by
  have hne : ∀ x : Status, x ∈ [Status.lineState, .stationNotFitted, .stationBusy, .noSuchAppliance, .wrongPhase,
      .attemptsSpent, .receiverFull, .classConflict] → x.refusal := by
    simp [Status.refusal]
  refine hne st ?_
  unfold State.beginCheck at h
  simp only at h
  repeat' split at h
  all_goals cases h <;> simp

theorem ansBegin_acts (id : Word) (station : Byte) : Acts (ansBegin id station) fun s t => ∃ n i r, s.fitted n = true
    ∧ (s.station n).state = .idle ∧ s.record i = some r ∧ r.phase = .queued ∧ r.attempts < 2
    ∧ t = s.beginAttempt n i := by
  intro s
  unfold ansBegin
  split
  · exact .refuse rfl
  split
  · exact .refuse rfl
  split
  case h_1 hc => exact .refuse rfl (State.beginCheck_error hc)
  case h_2 i hc =>
    obtain ⟨-, hf, hs, r, hr, hp, ha⟩ := State.beginCheck_ok hc
    exact .act rfl ⟨_, i, r, hf, hs, hr, hp, ha, rfl⟩ (.inr rfl)

/-- A request that names a station refuses unless the station is fitted and its owner acts (R25). -/
theorem atStation_acts (station : Byte) {f : State → StationNo → State × Answer} {Q : StationNo → State → State → Prop}
    (h : ∀ n, Acts (fun s => f s n) (Q n)) :
    Acts (fun s => atStation station s (f s)) fun s t => ∃ n, s.fitted n = true ∧ Q n s t := by
  intro s
  simp only [atStation]
  split
  · exact .refuse rfl
  split
  case isTrue n _ hf => exact (h n s).imp id fun ⟨ha, hq⟩ => ⟨ha, n, hf, hq⟩
  case isFalse => exact .refuse rfl

theorem ansAbort_acts (station : Byte) : Acts (ansAbort station) fun s t => ∃ n, s.fitted n = true
    ∧ (s.station n).state.running = true ∧ t = s.abort n .abort := by
  refine atStation_acts station (Q := fun n s t => (s.station n).state.running = true ∧ t = s.abort n .abort) fun n s => ?_
  simp only
  split
  case isTrue h => exact .act rfl ⟨h, rfl⟩ (.inr rfl)
  case isFalse => exact .refuse rfl

theorem ansWaive_acts (id : Word) : Acts (ansWaive id) fun s t => ∃ i r, s.record i = some r ∧ r.phase = .queued
    ∧ t = s.modRecord i fun r => r.extract .waived := by
  intro s
  unfold ansWaive
  split
  · exact .refuse rfl
  split
  · exact .refuse rfl
  split
  · exact .refuse rfl
  case h_2 i hid =>
  split
  case isTrue hp =>
    obtain ⟨r, hr, hp⟩ := Option.map_eq_some_iff.mp hp
    exact .act rfl ⟨i, r, hr, hp, rfl⟩ (.inl rfl)
  case isFalse => exact .refuse rfl

theorem ansClearStation_acts (station : Byte) : Acts (ansClearStation station) fun s t => ∃ n, s.fitted n = true
    ∧ (s.station n).state = .faulted ∧ t = (s.modStation n fun x => { x with faultCause := none }).enterAwait n := by
  refine atStation_acts station (Q := fun n s t => (s.station n).state = .faulted
    ∧ t = (s.modStation n fun x => { x with faultCause := none }).enterAwait n) fun n s => ?_
  simp only
  split
  case isTrue h => exact .act rfl ⟨h, rfl⟩ (.inl rfl)
  case isFalse => exact .refuse rfl

theorem ansReceiverChanged_acts (station : Byte) : Acts (ansReceiverChanged station) fun s t => ∃ n, s.fitted n = true
    ∧ (s.station n).state = .idle ∧ t = s.modStation n fun x => { x with receiver := receiverReset } := by
  refine atStation_acts station (Q := fun n s t => (s.station n).state = .idle
    ∧ t = s.modStation n fun x => { x with receiver := receiverReset }) fun n s => ?_
  simp only
  split
  case isTrue h => exact .act rfl ⟨h, rfl⟩ (.inl rfl)
  case isFalse => exact .refuse rfl

theorem ansReadStation_acts (station : Byte) : Acts (ansReadStation station) fun s t => ∃ n, s.fitted n = true ∧ t = s :=
  atStation_acts station (Q := fun _ s t => t = s) fun _ _ => ActsAt.act rfl rfl (.inl rfl)

/-! ### The requests of the Feeder, the atmosphere and the attribution unit -/

theorem State.jamCheck_cases (s : State) :
    (s.feeder.state ≠ .jammed ∧ s.jamCheck = some .wrongPhase)
      ∨ (s.feeder.state = .jammed ∧ s.pins.gateClosed = false ∧ s.jamCheck = some .gateOpen)
      ∨ (s.feeder.state = .jammed ∧ s.pins.gateClosed = true ∧ s.jamCheck = none) := by
  by_cases hj : s.feeder.state = .jammed
  · cases hg : s.pins.gateClosed <;> simp [State.jamCheck, hj, hg]
  · simp [State.jamCheck, hj]

theorem ansFeedClear_acts : Acts ansFeedClear fun s t => s.feeder.state = .jammed
    ∧ t = (if s.table.feeding.isSome then s.feedEvent s.clock true else s).freeJam := by
  intro s
  unfold ansFeedClear
  rcases s.jamCheck_cases with ⟨-, hc⟩ | ⟨-, -, hc⟩ | ⟨hj, -, hc⟩ <;> rw [hc]
  · exact .refuse rfl
  · exact .refuse rfl
  · exact .act rfl ⟨hj, rfl⟩ (.inl rfl)

theorem ansFeedReturn_acts : Acts ansFeedReturn fun s t => s.feeder.state = .jammed
    ∧ t = s.returnToHead.freeJam := by
  intro s
  unfold ansFeedReturn
  rcases s.jamCheck_cases with ⟨-, hc⟩ | ⟨-, -, hc⟩ | ⟨hj, -, hc⟩ <;> rw [hc]
  · exact .refuse rfl
  · exact .refuse rfl
  · exact .act rfl ⟨hj, rfl⟩ (.inl rfl)

theorem ansHoldOn_acts : Acts ansHoldOn fun s t => t = { s with atm := { s.atm with hostHold := true } } :=
  fun _ => ActsAt.act rfl rfl (.inl rfl)

theorem ansHoldOff_acts : Acts ansHoldOff fun s t => t = { s with atm := { s.atm with hostHold := false } } :=
  fun _ => ActsAt.act rfl rfl (.inl rfl)

/-- The atmosphere as an allowed TRIP RESET leaves it (R89). -/
def State.recover (s : State) : State :=
  { s with atm := { s.atm with state := .recovering, tripCauses := none, holdStart := none, holdLength := none } }

theorem ansTripReset_acts : Acts ansTripReset fun s t => s.atm.state = .tripped ∧ t = s.recover.judgePermit := by
  intro s
  unfold ansTripReset
  split
  · exact .refuse rfl
  case isFalse ht =>
  split
  · exact .refuse rfl
  split
  · exact .act rfl ⟨not_not.mp ht, rfl⟩ (.inl rfl)
  · exact .refuse rfl

theorem ansDrainBegin_acts : Acts ansDrainBegin fun s t => ∃ f, t = { s with foam := f } := by
  intro s
  unfold ansDrainBegin
  split
  · exact .refuse rfl
  · exact .act rfl ⟨_, rfl⟩ (.inl rfl)
  · exact .act rfl ⟨_, rfl⟩ (.inl rfl)

theorem ansDrainEnd_acts : Acts ansDrainEnd fun s t => ∃ f, t = { s with foam := f } := by
  intro s
  unfold ansDrainEnd
  split
  · exact .act rfl ⟨_, rfl⟩ (.inl rfl)
  · exact .refuse rfl

/-! ### The requests of configuration, notices, totals and status -/

theorem ansSetConfig_acts (item : Byte) (value : Word) :
    Acts (ansSetConfig item value) fun s t => ∃ i v, t = (s.setItem i v).itemEffect i := by
  intro s
  unfold ansSetConfig
  split
  · exact .refuse rfl
  split
  · exact .act rfl ⟨_, _, rfl⟩ (.inl rfl)
  · exact .refuse rfl

theorem ansReadConfig_acts : Acts ansReadConfig fun s t => t = s := fun _ => ActsAt.act rfl rfl (.inl rfl)

theorem ansSetChannel_acts (c : Byte) (z sp lo hi bd : Word) :
    Acts (ansSetChannel c z sp lo hi bd) fun s t => ∃ c f, t = s.modChannel c f := by
  intro s
  unfold ansSetChannel
  split
  · exact .refuse rfl
  · exact .act rfl ⟨_, _, rfl⟩ (.inl rfl)

theorem ansReadChannel_acts (c : Byte) : Acts (ansReadChannel c) fun s t => t = s := by
  intro s
  unfold ansReadChannel
  split
  · exact .refuse rfl
  · exact .act rfl rfl (.inl rfl)

theorem ansSetSource_acts (i l : Byte) : Acts (ansSetSource i l) fun s t => ∃ a, t = { s with arb := a } := by
  intro s
  unfold ansSetSource
  split
  · exact .refuse rfl
  · exact .act rfl ⟨_, rfl⟩ (.inl rfl)

theorem ansSetMask_acts (m a : Byte) : Acts (ansSetMask m a) fun s t => ∃ b, t = { s with arb := b } :=
  fun _ => ActsAt.act rfl ⟨_, rfl⟩ (.inl rfl)

theorem ansTakeNotices_acts (tag : Byte) : Acts (ansTakeNotices tag) fun s t => ∃ b, t = { s with arb := b } :=
  fun _ => ActsAt.act rfl ⟨_, rfl⟩ (.inl rfl)

theorem ansReadStatus_acts : Acts ansReadStatus fun s t => t = s := fun _ => ActsAt.act rfl rfl (.inl rfl)

theorem ansReadTotals_acts : Acts ansReadTotals fun s t => t = s := fun _ => ActsAt.act rfl rfl (.inl rfl)

theorem ansClearTotals_acts : Acts ansClearTotals fun s t => t = { s with totals := totalsReset, totalsStart := s.clock } :=
  fun _ => ActsAt.act rfl rfl (.inl rfl)

/-! ### The line's requests -/

/-- A line request that refuses carries the line state (R166). -/
theorem ActsAt.refuseLine {s : State} {x : State × Answer} {Q : State → Prop} {st : Status} (h : x = lineAnswer st s)
    (hst : st.refusal := by exact ⟨nofun, nofun⟩) : ActsAt s x Q := by
  subst h; exact .inl ⟨rfl, hst⟩

theorem ansLineRun_acts : Acts ansLineRun fun s t => t = s.setLine .run := by
  intro s
  have move : ActsAt s (if s.pins.emergencyStop then lineAnswer .emergencyActive s else lineAnswer .done (s.setLine .run))
      fun t => t = s.setLine .run := by
    split
    · exact .refuseLine rfl
    · exact .act rfl rfl (.inl rfl)
  unfold ansLineRun
  split
  · exact move
  · exact move
  · exact .refuseLine rfl
  · exact .refuseLine rfl

theorem ansLineHold_acts : Acts ansLineHold fun s t => t = s.setLine .hold := by
  intro s
  unfold ansLineHold
  split
  · exact .act rfl rfl (.inl rfl)
  all_goals exact .refuseLine rfl

theorem ansLineStop_acts : Acts ansLineStop fun s t => t = s.stopLine := fun _ => ActsAt.act rfl rfl (.inl rfl)

theorem ansLineResume_acts : Acts ansLineResume fun s t => t = s.setLine .hold := by
  intro s
  unfold ansLineResume
  split
  · split
    · exact .refuseLine rfl
    · exact .act rfl rfl (.inl rfl)
  all_goals exact .refuseLine rfl

theorem ansClearLine_acts : Acts ansClearLine fun s t => s.clearable = true ∧ t = s.clearLine := by
  intro s
  unfold ansClearLine
  split
  · split
    case isTrue hc => exact .act rfl ⟨hc, rfl⟩ (.inl rfl)
    case isFalse => exact .refuse rfl
  · exact .refuse rfl

theorem badKind_acts : Acts (fun s => (s, bare .badKind)) fun s t => t = s := fun _ => ActsAt.refuse rfl

theorem ansBadLength_acts (k : Byte) : Acts (ansBadLength k) fun s t => t = s := by
  intro s
  unfold ansBadLength
  split
  · exact ActsAt.refuseLine rfl
  · exact ActsAt.refuse rfl

end Sys2Proof.Machine
end

section
/-! Every step keeps the agreement (`Obligations.ConsistencyKept`), and a refused request changes nothing but the Link
Port (`Obligations.RefusedRequestChangesNothing`): both by what each request's owner can do. -/

namespace Sys2Proof.Machine

/-! ### The actions of the owners keep the agreement -/

section Actions

variable {s : State} {i : Slot} {r : Record} {n : StationNo}

theorem State.findIdent_pos {id : Word} (h : s.findIdent id = none) : ∀ j q, s.record j = some q → q.ident ≠ id :=
  fun _ _ hq => State.findIdent_eq_none h hq

theorem State.Agrees.enrol (h : s.Agrees) (hr : s.record i = none) (hok : r.okAt i) (hp : r.phase = .queued)
    (hid : ∀ j q, s.record j = some q → q.ident ≠ r.ident) : (s.enrol i r).Agrees :=
  ⟨h.toCore.enrol hr hok hp hid, h.gate⟩

theorem State.newRecord_ok (s : State) {id : Word} (h0 : id ≠ 0) (i : Slot) (d : Declared) (c : Word) (fc : Fin 7)
    (fa : FoamAgent) : (s.newRecord i id d c fc fa).okAt i :=
  ⟨rfl, h0, Nat.zero_le _, Nat.le_refl _, by simp [State.newRecord], by simp [State.newRecord]⟩

/-- WITHDRAW's move (R19): where the head leaves the queue the Feeder judges again, and else the queue stays non-empty. -/
theorem State.Agrees.withdrawSlot (h : s.Agrees) (hr : s.record i = some r)
    (hp : r.phase = .queued ∨ r.phase = .extracted ∨ r.phase = .shredWait) : (s.withdrawSlot i).Agrees := by
  have hm : (s.modRecord i fun r => { r with foamVerdict := some .notShredded }).Agrees :=
    h.modRecord_same fun _ => ⟨rfl, rfl, rfl, rfl, rfl, rfl, rfl⟩
  have hrm : (s.modRecord i fun r => { r with foamVerdict := some .notShredded }).record i
      = some { r with foamVerdict := some .notShredded } := by simp [hr]
  have hcore := hm.toCore.closeSlot hrm (by rcases hp with hp | hp | hp <;> simp [hp])
  have htab := State.closeSlot_table hrm
  have hfeeder := State.closeSlot_feeder (s.modRecord i fun r => { r with foamVerdict := some .notShredded }) i
  have hfeeding : ((s.modRecord i fun r => { r with foamVerdict := some .notShredded }).closeSlot i).table.feeding
      = s.table.feeding := by rw [htab]; rfl
  have hqueue : ((s.modRecord i fun r => { r with foamVerdict := some .notShredded }).closeSlot i).table.shredQueue
      = s.table.shredQueue.filter (· != i) := by rw [htab]; rfl
  obtain ⟨h1, h2, h3, h4, h5, h6⟩ := h.gate
  unfold State.withdrawSlot
  simp only
  split
  case isTrue =>
    refine hcore.judgePermit ?_
    rw [State.gateLoose, hfeeder, hfeeding, hqueue]
    exact ⟨h1, h2, fun hi => by rw [h3 hi]; rfl, h5, h6⟩
  case isFalse hhead =>
    refine ⟨hcore, ?_⟩
    rw [State.feederLaw, hfeeder, hfeeding, hqueue]
    refine ⟨h1, h2, fun hi => by rw [h3 hi]; rfl, fun hw => ?_, h5, h6⟩
    obtain ⟨j, rest, hq⟩ := List.exists_cons_of_ne_nil (h4 hw)
    have hj : j ≠ i := by simpa [hq] using hhead
    simp [hq, hj]

theorem State.Agrees.releaseSlot (h : s.Agrees) (hr : s.record i = some r) (hp : r.phase = .extracted) :
    ((s.release i).judgeIdle).Agrees := by
  obtain ⟨h1, h2, h3, h4, h5, h6⟩ := h.gate
  refine (h.toCore.release hr hp).judgeIdle ?_
  by_cases hidle : s.feeder.state = .idle
  · refine .inr ⟨hidle, h2 (.inl hidle), h.jam_none (by simp [hidle]), ?_⟩
    simp [State.release]
  · exact .inl ⟨h1, h2, fun hi => absurd hi hidle, fun _ => by simp [State.release], h5, h6⟩

theorem State.Agrees.takeClosed (h : s.Agrees) (tag : Byte) : (s.takeClosed tag).Agrees := by
  refine ⟨h.toCore.takeClosed tag, ?_⟩
  rw [State.feederLaw, State.takeClosed_table]
  exact h.gate

/-- A station at the start of an attempt, in CLAMPING (R30, R31). -/
def Station.begun (i : Slot) (deadline : Time) (x : Station) : Station :=
  { x with
    bound := some i, pierced := false, probeTaken := false, attemptClass := none, tareReceiver := none, tareOil := none
    finalReceiver := none, finalOil := none, dwellStart := none, riseRef := none, endCause := none, rises := 0
    state := .clamping, deadline := some deadline }

theorem State.beginAttempt_eq (s : State) (n : StationNo) (i : Slot) : s.beginAttempt n i =
    if s.pins.clamp[n]
      then ((s.modRecord i (Record.bind n)).modStation n (Station.begun i (after s.clock (s.item iTClamp)))).enterTaring n
      else (s.modRecord i (Record.bind n)).modStation n (Station.begun i (after s.clock (s.item iTClamp))) := by
  unfold State.beginAttempt State.enterClamping State.enterTimed
  simp only [State.modStation_modStation]
  rfl

theorem Station.begun_law {x : Station} (d : Time) (hf : x.faultCause = none) : (x.begun i d).law := by
  simp [Station.law, Station.begun, StationState.busy, StationState.running, StationState.open, hf]

theorem State.Agrees.beginAttempt (h : s.Agrees) (hfit : s.fitted n = true) (hs : (s.station n).state = .idle)
    (hr : s.record i = some r) (hp : r.phase = .queued) (ha : r.attempts < 2) : (s.beginAttempt n i).Agrees := by
  have hlaw := h.station n
  have hb : (s.station n).bound = none := by
    have hbusy : (s.station n).bound.isSome = false := hlaw.bound_iff.trans (by rw [hs]; rfl)
    simpa using hbusy
  have hrb : r.bound = none := h.filed.unbound hr (by simp [hp])
  have hok : (r.bind n).okAt i := (h.filed.ok i r hr).move ⟨rfl, rfl, rfl, rfl⟩ (by simp [Record.bind])
    (by simp [Record.bind, h.filed.noTicks hr (by simp [hp])])
  have hbegun : ((s.modRecord i (Record.bind n)).modStation n
      (Station.begun i (after s.clock (s.item iTClamp)))).Agrees := by
    refine h.restation (h.filed.modRecord fun q hq => ?_)
      (State.bond_rebind h.bond hr (.inl hb) (.inl hrb) (.inr ⟨rfl, rfl, rfl, ha⟩))
      (Station.begun_law _ (hlaw.no_fault (by simp [hs]))) fun _ hf => by simp [hfit] at hf
    cases hr.symm.trans hq
    exact ⟨rfl, hok, .inr ⟨rfl, by simp [hp, Phase.loose]⟩⟩
  rw [State.beginAttempt_eq]
  split
  · exact hbegun.enterTaring (by rw [State.modStation_station, if_pos rfl]; rfl)
  · exact hbegun

theorem State.Agrees.waive (h : s.Agrees) (hr : s.record i = some r) (hp : r.phase = .queued) :
    (s.modRecord i fun r => r.extract .waived).Agrees := by
  have hb := h.filed.noBond (by simp [hp]) hr
  have hok : (r.extract .waived).okAt i := (h.filed.ok i r hr).move ⟨rfl, rfl, rfl, rfl⟩
    (by simp [Record.extract, Record.flagIf]) (by simp [Record.extract, Record.flagIf, h.filed.noTicks hr (by simp [hp])])
  refine ⟨h.toCore.refile (h.filed.modRecord fun q hq => ?_) (s.modRecord_refiled i _) hb ?_ rfl rfl rfl rfl, h.gate⟩
  · cases hr.symm.trans hq
    exact ⟨rfl, hok, .inr ⟨rfl, by simp [hp, Phase.loose]⟩⟩
  · rw [hr]
    rintro q ⟨⟩
    rfl

theorem State.Agrees.clearStation (h : s.Agrees) (hs : (s.station n).state = .faulted) :
    ((s.modStation n fun x => { x with faultCause := none }).enterAwait n).Agrees := by
  have hlaw := h.station n
  have hb : (s.station n).bound = none := by
    have hbusy : (s.station n).bound.isSome = false := hlaw.bound_iff.trans (by rw [hs]; rfl)
    simpa using hbusy
  rw [State.enterAwait_eq, State.modStation_modStation]
  exact h.modStation (Station.awaiting_law _ hlaw.tares rfl) hb.symm id (by simp [hs])

theorem State.Agrees.feedClear (h : s.Agrees) :
    ((if s.table.feeding.isSome then s.feedEvent s.clock true else s).freeJam).Agrees := by
  split
  case isTrue => exact (h.toCore.feedEvent _ _).freeJam (State.feedEvent_feeding _ _ _)
  case isFalse hf => exact h.toCore.freeJam (by simpa using hf)

end Actions

/-! ### Fair owners -/

/-- An owner whose answer keeps the agreement, and whose refusal leaves the state. -/
structure Fair (owner : State → State × Answer) : Prop where
  keeps : ∀ {s}, s.Agrees → (owner s).1.Agrees
  refused : ∀ {s}, (owner s).2.status.refusal → (owner s).1 = s

theorem Acts.fair {owner : State → State × Answer} {Q : State → State → Prop} (h : Acts owner Q)
    (hQ : ∀ s t, s.Agrees → Q s t → t.Agrees) : Fair owner := ⟨fun hs => h.keeps hQ hs, fun hr => h.refused hr⟩

theorem Acts.fair_same {owner : State → State × Answer} {Q : State → State → Prop} (h : Acts owner Q)
    (hQ : ∀ s t, Q s t → s.SameParts t) : Fair owner := h.fair fun s t hs hq => hs.of_same (hQ s t hq)

theorem State.SameParts.refl (s : State) : s.SameParts s := ⟨rfl, rfl, rfl, rfl, rfl, rfl⟩

/-- An owner that only reads. -/
theorem Acts.fair_reads {owner : State → State × Answer} (h : Acts owner fun s t => t = s) : Fair owner :=
  h.fair_same fun s _ ht => ht ▸ State.SameParts.refl s

theorem ansAdmit_fair (id : Word) (dc : Byte) (c : Word) (fcc fac : Byte) : Fair (ansAdmit id dc c fcc fac) := by
  refine (ansAdmit_acts id dc c fcc fac).fair ?_
  rintro s t h ⟨i, d, fc, fa, h0, hid, hi, rfl⟩
  exact h.enrol hi (s.newRecord_ok h0 i d c fc fa) rfl (State.findIdent_pos hid)

theorem ansWithdraw_fair (id : Word) : Fair (ansWithdraw id) := by
  refine (ansWithdraw_acts id).fair ?_
  rintro s t h ⟨i, r, hr, hp, rfl⟩
  exact h.withdrawSlot hr hp

theorem ansRelease_fair (id : Word) : Fair (ansRelease id) := by
  refine (ansRelease_acts id).fair ?_
  rintro s t h ⟨i, r, hr, hp, rfl⟩
  exact h.releaseSlot hr hp

theorem ansTakeClosed_fair (tag : Byte) : Fair (ansTakeClosed tag) := by
  refine (ansTakeClosed_acts tag).fair ?_
  rintro s t h (rfl | rfl)
  · exact h
  · exact h.takeClosed tag

theorem ansBegin_fair (id : Word) (station : Byte) : Fair (ansBegin id station) := by
  refine (ansBegin_acts id station).fair ?_
  rintro s t h ⟨n, i, r, hf, hs, hr, hp, ha, rfl⟩
  exact h.beginAttempt hf hs hr hp ha

theorem ansAbort_fair (station : Byte) : Fair (ansAbort station) := by
  refine (ansAbort_acts station).fair ?_
  rintro s t h ⟨n, -, hr, rfl⟩
  exact h.abort (StationState.busy_of_running hr) _

theorem ansWaive_fair (id : Word) : Fair (ansWaive id) := by
  refine (ansWaive_acts id).fair ?_
  rintro s t h ⟨i, r, hr, hp, rfl⟩
  exact h.waive hr hp

theorem ansClearStation_fair (station : Byte) : Fair (ansClearStation station) := by
  refine (ansClearStation_acts station).fair ?_
  rintro s t h ⟨n, -, hs, rfl⟩
  exact h.clearStation hs

theorem ansReceiverChanged_fair (station : Byte) : Fair (ansReceiverChanged station) := by
  refine (ansReceiverChanged_acts station).fair ?_
  rintro s t h ⟨n, -, -, rfl⟩
  exact h.modStation (h.station n) rfl id id

theorem ansReadStation_fair (station : Byte) : Fair (ansReadStation station) := by
  refine (ansReadStation_acts station).fair ?_
  rintro s t h ⟨n, -, rfl⟩
  exact h

theorem ansFeedClear_fair : Fair ansFeedClear := by
  refine ansFeedClear_acts.fair ?_
  rintro s t h ⟨-, rfl⟩
  exact h.feedClear

theorem ansFeedReturn_fair : Fair ansFeedReturn := by
  refine ansFeedReturn_acts.fair ?_
  rintro s t h ⟨-, rfl⟩
  exact h.toCore.returnToHead.freeJam s.returnToHead_feeding

theorem ansHoldOn_fair : Fair ansHoldOn :=
  ansHoldOn_acts.fair_same fun _ _ ht => ht ▸ ⟨rfl, rfl, rfl, rfl, rfl, rfl⟩

theorem ansHoldOff_fair : Fair ansHoldOff :=
  ansHoldOff_acts.fair_same fun _ _ ht => ht ▸ ⟨rfl, rfl, rfl, rfl, rfl, rfl⟩

theorem ansTripReset_fair : Fair ansTripReset := by
  refine ansTripReset_acts.fair ?_
  rintro s t h ⟨-, rfl⟩
  exact State.Agrees.judgePermit (h.setAtmosphere (by simp))

theorem ansDrainBegin_fair : Fair ansDrainBegin :=
  ansDrainBegin_acts.fair_same fun _ _ ⟨_, ht⟩ => ht ▸ ⟨rfl, rfl, rfl, rfl, rfl, rfl⟩

theorem ansDrainEnd_fair : Fair ansDrainEnd :=
  ansDrainEnd_acts.fair_same fun _ _ ⟨_, ht⟩ => ht ▸ ⟨rfl, rfl, rfl, rfl, rfl, rfl⟩

theorem ansSetConfig_fair (item : Byte) (value : Word) : Fair (ansSetConfig item value) := by
  refine (ansSetConfig_acts item value).fair ?_
  rintro s t h ⟨i, v, rfl⟩
  have hset : (s.setItem i v).Agrees := h.of_same ⟨rfl, rfl, rfl, rfl, rfl, rfl⟩
  exact hset.itemEffect i

theorem ansSetChannel_fair (c : Byte) (z sp lo hi bd : Word) : Fair (ansSetChannel c z sp lo hi bd) :=
  (ansSetChannel_acts c z sp lo hi bd).fair_same fun _ _ ⟨_, _, ht⟩ => ht ▸ ⟨rfl, rfl, rfl, rfl, rfl, rfl⟩

theorem ansSetSource_fair (i l : Byte) : Fair (ansSetSource i l) :=
  (ansSetSource_acts i l).fair_same fun _ _ ⟨_, ht⟩ => ht ▸ ⟨rfl, rfl, rfl, rfl, rfl, rfl⟩

theorem ansSetMask_fair (m a : Byte) : Fair (ansSetMask m a) :=
  (ansSetMask_acts m a).fair_same fun _ _ ⟨_, ht⟩ => ht ▸ ⟨rfl, rfl, rfl, rfl, rfl, rfl⟩

theorem ansTakeNotices_fair (tag : Byte) : Fair (ansTakeNotices tag) :=
  (ansTakeNotices_acts tag).fair_same fun _ _ ⟨_, ht⟩ => ht ▸ ⟨rfl, rfl, rfl, rfl, rfl, rfl⟩

theorem ansClearTotals_fair : Fair ansClearTotals :=
  ansClearTotals_acts.fair_same fun _ _ ht => ht ▸ ⟨rfl, rfl, rfl, rfl, rfl, rfl⟩

theorem ansLineRun_fair : Fair ansLineRun := ansLineRun_acts.fair fun _ _ h ht => ht ▸ h.setLine _
theorem ansLineHold_fair : Fair ansLineHold := ansLineHold_acts.fair fun _ _ h ht => ht ▸ h.setLine _
theorem ansLineStop_fair : Fair ansLineStop := ansLineStop_acts.fair fun _ _ h ht => ht ▸ h.stopLine
theorem ansLineResume_fair : Fair ansLineResume := ansLineResume_acts.fair fun _ _ h ht => ht ▸ h.setLine _
theorem ansClearLine_fair : Fair ansClearLine := ansClearLine_acts.fair fun _ _ h ⟨hc, ht⟩ => ht ▸ h.clearLine hc

/-- The owner of every Kind is fair (R184). -/
theorem answerKind_fair (kind tag : Byte) (b : List Byte) : Fair (answerKind kind tag b) := by
  unfold answerKind
  split
  case h_1 => exact ansAdmit_fair _ _ _ _ _
  case h_2 => exact (ansQuery_acts _ _).fair_reads
  case h_3 => exact ansListTable_acts.fair_reads
  case h_4 => exact ansWithdraw_fair _
  case h_5 => exact ansRelease_fair _
  case h_6 => exact ansTakeClosed_fair _
  case h_7 => exact ansBegin_fair _ _
  case h_8 => exact ansAbort_fair _
  case h_9 => exact ansWaive_fair _
  case h_10 => exact ansClearStation_fair _
  case h_11 => exact ansReceiverChanged_fair _
  case h_12 => exact ansReadStation_fair _
  case h_13 => exact ansFeedClear_fair
  case h_14 => exact ansFeedReturn_fair
  case h_15 => exact ansHoldOn_fair
  case h_16 => exact ansHoldOff_fair
  case h_17 => exact ansTripReset_fair
  case h_18 => exact ansDrainBegin_fair
  case h_19 => exact ansDrainEnd_fair
  case h_20 => exact ansSetConfig_fair _ _
  case h_21 => exact ansReadConfig_acts.fair_reads
  case h_22 => exact ansSetChannel_fair _ _ _ _ _ _
  case h_23 => exact (ansReadChannel_acts _).fair_reads
  case h_24 => exact ansSetSource_fair _ _
  case h_25 => exact ansSetMask_fair _ _
  case h_26 => exact ansTakeNotices_fair _
  case h_27 => exact ansReadStatus_acts.fair_reads
  case h_28 => exact ansReadTotals_acts.fair_reads
  case h_29 => exact ansClearTotals_fair
  case h_30 => exact ansLineRun_fair
  case h_31 => exact ansLineHold_fair
  case h_32 => exact ansLineStop_fair
  case h_33 => exact ansLineResume_fair
  case h_34 => exact ansClearLine_fair
  case h_35 => exact badKind_acts.fair_reads

theorem answerFrame_fair (kind tag : Byte) (b : List Byte) : Fair (answerFrame kind tag b) := by
  unfold answerFrame
  split
  · exact badKind_acts.fair_reads
  · split
    · exact answerKind_fair kind tag b
    · exact (ansBadLength_acts kind).fair_reads

/-! ### Requests, frames and the line -/

section Requests

variable {s : State} {owner : State → State × Answer}

theorem State.Agrees.withLink (h : s.Agrees) (l : Link) : State.Agrees { s with link := l } :=
  h.of_same ⟨rfl, rfl, rfl, rfl, rfl, rfl⟩

theorem State.Agrees.takeRequest (h : s.Agrees) (ho : Fair owner) (k g : Byte) : (s.takeRequest k g owner).Agrees :=
  (ho.keeps (h.withLink _)).withLink _

theorem State.Agrees.request (h : s.Agrees) (ho : Fair owner) (k g : Byte) : (s.request k g owner).Agrees := by
  unfold State.request
  split
  · exact h
  · exact h.takeRequest ho k g

theorem State.Agrees.takeBroadcast (h : s.Agrees) (ho : Fair owner) : (s.takeBroadcast owner).Agrees :=
  ho.keeps (h.withLink _)

theorem State.Agrees.broadcast (h : s.Agrees) (ho : Fair owner) : (s.broadcast owner).Agrees := by
  unfold State.broadcast
  split
  · exact h
  · exact h.takeBroadcast ho

theorem State.Agrees.goodFrame (h : s.Agrees) (k g : Byte) (b : List Byte) : (s.goodFrame k g b).Agrees := by
  unfold State.goodFrame
  split
  · split
    · exact h.takeBroadcast (answerKind_fair k g b)
    · exact h.withLink _
  · exact h.takeRequest (answerFrame_fair k g b) k g

theorem State.Agrees.linkError (h : s.Agrees) (e : LinkError) : (s.linkError e).Agrees := h.raise _ _ _

theorem State.Agrees.checkError (h : s.Agrees) (c : CheckCause) : (s.checkError c).Agrees := by
  unfold State.checkError
  split
  · exact State.Agrees.linkError (h.withLink _) _
  · exact h

theorem State.Agrees.framingError (h : s.Agrees) : s.framingError.Agrees := by
  unfold State.framingError
  split
  · exact h
  · exact State.Agrees.linkError (h.withLink _) _

theorem State.Agrees.gapError (h : s.Agrees) : s.gapError.Agrees := by
  unfold State.gapError
  split
  · exact State.Agrees.linkError (h.withLink _) _
  · exact h

theorem State.Agrees.heardAddress (h : s.Agrees) (a : Byte) : (s.heardAddress a).Agrees := by
  unfold State.heardAddress
  split
  · exact h
  · exact h.withLink _
  · exact h.withLink _
  · exact State.Agrees.withLink (State.Agrees.linkError (h.withLink _) _) _

theorem State.Agrees.heardChar (h : s.Agrees) (c : Byte) : (s.heardChar c).Agrees := by
  unfold State.heardChar
  split
  case isFalse => exact h
  split
  · split
    · exact h.checkError _
    · exact h.withLink _
  split
  · exact h.withLink _
  split
  · exact h.withLink _
  · unfold State.frameComplete
    split
    · exact h.goodFrame _ _ _
    · exact h.checkError _

theorem State.Agrees.startReply (h : s.Agrees) : s.startReply.Agrees := by
  unfold State.startReply
  split
  · exact h
  · split
    · exact h.withLink _
    · exact h

theorem State.Agrees.endReply (h : s.Agrees) : s.endReply.Agrees := by
  unfold State.endReply
  split
  · exact h.withLink _
  · exact h

end Requests

/-- A request taken, by its owner's answer (R184, R185). -/
theorem State.takeRequest_eq (s : State) (k g : Byte) (owner : State → State × Answer) :
    s.takeRequest k g owner = { (owner { s with link := s.link.accept }).1 with
      link := { (owner { s with link := s.link.accept }).1.link with
        reply := some ⟨k, g, (owner { s with link := s.link.accept }).2.body⟩ } } := rfl

/-- A request that is not lost and whose owner refuses changes the link alone, and its reply has the refusal's status. -/
theorem State.request_refused {s : State} {k g : Byte} {owner : State → State × Answer} {r : Reply} (ho : Fair owner)
    (hrx : s.link.rx ≠ .replying) (hr : (s.request k g owner).link.reply = some r)
    (hdone : r.body.head? ≠ some Status.done.code) (hacc : r.body.head? ≠ some Status.accepted.code) :
    s.request k g owner = { s with link := (s.request k g owner).link } := by
  have hreq : s.request k g owner = s.takeRequest k g owner := by simp [State.request, State.replying, hrx]
  rw [hreq] at hr ⊢
  have hbody : r.body.head? = some (owner { s with link := s.link.accept }).2.status.code := by
    rw [State.takeRequest_eq] at hr
    cases hr
    rfl
  have hrefused : (owner { s with link := s.link.accept }).2.status.refusal :=
    ⟨fun h => hdone (by rw [hbody, h]), fun h => hacc (by rw [hbody, h])⟩
  rw [State.takeRequest_eq, ho.refused hrefused]

/-! ### Every request is one owner's -/

/-- A request command is the request of a fair owner; a Kind of the catalogue is no bad Kind and changes nothing
(R184). -/
theorem exec_request (c : Instr) (s : State) (hc : (requestFrame c).isSome = true) (hb : isBroadcast c = false) :
    exec c s = .next s ∨ ∃ k g owner, Fair owner ∧ exec c s = .next (s.request k g owner) := by
  cases c
  case admitAppliance => exact .inr ⟨_, _, _, ansAdmit_fair _ _ _ _ _, rfl⟩
  case queryAppliance => exact .inr ⟨_, _, _, (ansQuery_acts _ _).fair_reads, rfl⟩
  case listTable => exact .inr ⟨_, _, _, ansListTable_acts.fair_reads, rfl⟩
  case withdraw => exact .inr ⟨_, _, _, ansWithdraw_fair _, rfl⟩
  case releaseToShred => exact .inr ⟨_, _, _, ansRelease_fair _, rfl⟩
  case takeClosed => exact .inr ⟨_, _, _, ansTakeClosed_fair _, rfl⟩
  case beginExtraction => exact .inr ⟨_, _, _, ansBegin_fair _ _, rfl⟩
  case abortExtraction => exact .inr ⟨_, _, _, ansAbort_fair _, rfl⟩
  case waiveExtraction => exact .inr ⟨_, _, _, ansWaive_fair _, rfl⟩
  case clearStation => exact .inr ⟨_, _, _, ansClearStation_fair _, rfl⟩
  case receiverChanged => exact .inr ⟨_, _, _, ansReceiverChanged_fair _, rfl⟩
  case readStation => exact .inr ⟨_, _, _, ansReadStation_fair _, rfl⟩
  case feedClear => exact .inr ⟨_, _, _, ansFeedClear_fair, rfl⟩
  case feedReturn => exact .inr ⟨_, _, _, ansFeedReturn_fair, rfl⟩
  case inertHoldOn => exact .inr ⟨_, _, _, ansHoldOn_fair, rfl⟩
  case inertHoldOff => exact .inr ⟨_, _, _, ansHoldOff_fair, rfl⟩
  case tripReset => exact .inr ⟨_, _, _, ansTripReset_fair, rfl⟩
  case drainBegin => exact .inr ⟨_, _, _, ansDrainBegin_fair, rfl⟩
  case drainEnd => exact .inr ⟨_, _, _, ansDrainEnd_fair, rfl⟩
  case setConfig => exact .inr ⟨_, _, _, ansSetConfig_fair _ _, rfl⟩
  case readConfig => exact .inr ⟨_, _, _, ansReadConfig_acts.fair_reads, rfl⟩
  case setChannel => exact .inr ⟨_, _, _, ansSetChannel_fair _ _ _ _ _ _, rfl⟩
  case readChannel => exact .inr ⟨_, _, _, (ansReadChannel_acts _).fair_reads, rfl⟩
  case setSource => exact .inr ⟨_, _, _, ansSetSource_fair _ _, rfl⟩
  case setMask => exact .inr ⟨_, _, _, ansSetMask_fair _ _, rfl⟩
  case takeNotices => exact .inr ⟨_, _, _, ansTakeNotices_fair _, rfl⟩
  case readStatus => exact .inr ⟨_, _, _, ansReadStatus_acts.fair_reads, rfl⟩
  case readTotals => exact .inr ⟨_, _, _, ansReadTotals_acts.fair_reads, rfl⟩
  case clearTotals => exact .inr ⟨_, _, _, ansClearTotals_fair, rfl⟩
  case lineRun => exact .inr ⟨_, _, _, ansLineRun_fair, rfl⟩
  case lineHold tag b => cases (show b = false from hb); exact .inr ⟨_, _, _, ansLineHold_fair, rfl⟩
  case lineStop tag b => cases (show b = false from hb); exact .inr ⟨_, _, _, ansLineStop_fair, rfl⟩
  case lineResume => exact .inr ⟨_, _, _, ansLineResume_fair, rfl⟩
  case clearLine => exact .inr ⟨_, _, _, ansClearLine_fair, rfl⟩
  case badKind tag kind =>
    by_cases hk : kindInCatalogue kind = true
    · exact .inl (by simp only [exec, execBadKind, if_pos hk])
    · exact .inr ⟨kind, tag, _, badKind_acts.fair_reads, by simp only [exec, execBadKind, if_neg hk]⟩
  all_goals cases hc

/-- A broadcast LINE HOLD or LINE STOP is the broadcast of a fair owner (R186). -/
theorem exec_broadcast (c : Instr) (s : State) (hb : isBroadcast c = true) :
    ∃ owner, Fair owner ∧ exec c s = .next (s.broadcast owner) := by
  cases c
  case lineHold tag b => cases (show b = true from hb); exact ⟨_, ansLineHold_fair, rfl⟩
  case lineStop tag b => cases (show b = true from hb); exact ⟨_, ansLineStop_fair, rfl⟩
  all_goals cases hb

/-- An event keeps the agreement. -/
theorem exec_event_agrees (c : Instr) (s t : State) (h : s.Agrees) (hc : requestFrame c = none) (ht : exec c s = .next t) :
    t.Agrees := by
  cases c
  case deviceReset => cases ht; exact s.agrees_deviceReset _ _ _
  case broadcastIgnored =>
    simp only [exec, execBroadcastIgnored] at ht
    cases ht
    split
    · exact h
    · exact h.withLink _
  case addressCharacter => cases ht; exact h.heardAddress _
  case framing => cases ht; exact h.framingError
  case gap => cases ht; exact h.gapError
  case check => cases ht; exact h.checkError _
  case replyStart => cases ht; exact h.startReply
  case replyEnd => cases ht; exact h.endReply
  case clampClosedTrue n => cases ht; exact h.clampClosed n
  case clampOpened n => cases ht; exact h.clampOpen n
  case clampTimeout n =>
    simp only [exec, execClampTimeout] at ht
    cases ht
    split
    case isTrue he => exact h.faultUnpierced (by rw [State.expires_state he]; rfl) _
    case isFalse => exact h
  case scaleUnsettled n =>
    simp only [exec, execScaleUnsettled] at ht
    cases ht
    split
    case isTrue he => exact h.faultUnpierced (by rw [State.expires_state he]; rfl) _
    case isFalse => exact h
  case tPierceExpiry n => cases ht; exact h.pierceExpired n
  case probe n p => cases ht; exact h.probeExpired n p
  case tEvacExpiry n p => cases ht; exact h.evacExpired n p
  case tRiseExpiry n => cases ht; exact h.riseExpired n
  case tDrainExpiry n => cases ht; exact h.drainExpired n
  case weighingSettleTimeout n => cases ht; exact h.settleExpired n
  case gateClosedFalse => cases ht; exact h.gateOpened
  case gateClosedTrue => cases ht; exact h.gateShut
  case tOpenExpiry => cases ht; exact h.openExpired
  case tPassExpiry => cases ht; exact h.passExpired
  case tCloseExpiry => cases ht; exact h.closeExpired
  case feedCapture => cases ht; exact h.beamCleared
  case shredderRunningChange b => cases ht; exact h.shredderRuns b
  case emergencyStopAsserted => cases ht; exact h.emergencyOn
  case emergencyStopReleased => cases ht; exact h.of_same ⟨rfl, rfl, rfl, rfl, rfl, rfl⟩
  case flowEdge => cases ht; exact h.of_same ⟨rfl, rfl, rfl, rfl, rfl, rfl⟩
  case atmospherePeriodExpiry => cases ht; exact h.periodExpired
  case groupAConversion r => cases ht; exact h.groupAConverted r
  case groupBPassCompletion raw first a => cases ht; exact h.passCompleted raw first a
  case attributionTick => cases ht; exact h.tickStep
  case pwmPeriodEnd => cases ht; exact h.pwmPeriodEnded
  case characterWithoutMark c => cases ht; exact h.heardChar c
  case purgeOnTimeEnd => cases ht; exact h.onTimeEnded
  all_goals cases hc

/-- Every command keeps the agreement. -/
theorem exec_agrees (c : Instr) (s t : State) (h : s.Agrees) (ht : exec c s = .next t) : t.Agrees := by
  cases hc : requestFrame c with
  | none => exact exec_event_agrees c s t h hc ht
  | some x =>
    cases hb : isBroadcast c with
    | true =>
      obtain ⟨owner, ho, he⟩ := exec_broadcast c s hb
      cases he.symm.trans ht
      exact h.broadcast ho
    | false =>
      rcases exec_request c s (by simp [hc]) hb with he | ⟨k, g, owner, ho, he⟩
      · cases he.symm.trans ht
        exact h
      · cases he.symm.trans ht
        exact h.request ho k g

theorem step_agrees (s t : State) (h : s.Agrees) (ht : step s = .next t) : t.Agrees := by
  unfold step at ht
  split at ht
  · cases ht
    exact h.idle
  case h_2 rest _ =>
    have hrest : State.Agrees { s with pending := rest } := h.of_same ⟨rfl, rfl, rfl, rfl, rfl, rfl⟩
    exact exec_agrees _ _ t hrest ht

/-- Settles O10: each move of a record, each entry of a station and of the Feeder keeps the agreement, and every command
is made of these. -/
theorem consistencyKept : Obligations.ConsistencyKept := by
  intro s t h ht
  exact t.consistent_iff.mpr (step_agrees s t (s.consistent_iff.mp h) ht)

/-- Settles O13: an owner that refuses leaves the state, so that only the frame's count and the reply are new. -/
theorem refusedRequestChangesNothing : Obligations.RefusedRequestChangesNothing := by
  intro c s t r hc hb hrx ht hr hdone hacc
  rcases exec_request c s hc hb with he | ⟨k, g, owner, ho, he⟩
  · cases he.symm.trans ht
    rfl
  · cases he.symm.trans ht
    exact State.request_refused ho hrx hr hdone hacc

end Sys2Proof.Machine
end

section
/-! The Feeder (R70 to R82): the permit and what it leads to, the gate cycle, and the jams
(`Obligations.FeedPermit`, `Obligations.GateCycle`, `Obligations.Jams`). -/

namespace Sys2Proof.Machine

section Feeder

variable {s : State} {i : Slot} {r : Record}

/-! ### The permit (R73, R81) -/

theorem State.atmosphereFits_iff {rest : List Slot} (hq : s.table.shredQueue = i :: rest) : s.atmosphereFits = true ↔
    s.atm.state = .inert ∨ s.atm.state = .air ∧ ∀ r ∈ s.record i, r.flags.flammable = false := by
  have hhead : s.flammableHead = false ↔ ∀ r ∈ s.record i, r.flags.flammable = false := by
    cases hr : s.record i <;> simp [State.flammableHead, State.flammableAt, hq, hr, Record.flammable]
  simp [State.atmosphereFits, hhead]

theorem State.permit_iff {rest : List Slot} (hq : s.table.shredQueue = i :: rest) : s.permit = true ↔
    s.line.state = .run ∧ s.pins.shredderRunning = true ∧ s.table.openSet.length < 8
      ∧ (s.channel 10).status = .ok ∧ (s.channel 10).value < (s.item iVHigh : Int)
      ∧ (s.atm.state = .inert ∨ s.atm.state = .air ∧ ∀ r ∈ s.record i, r.flags.flammable = false) := by
  have hopen : decide (s.table.openSet.length < Config.maxOpen) = true ↔ s.table.openSet.length < 8 := decide_eq_true_iff
  rw [← State.atmosphereFits_iff hq]
  simp only [State.permit, State.vesselFits, Bool.and_eq_true, beq_iff_eq, decide_eq_true_eq, hopen, and_assoc]

/-! ### The judgement (R72 to R75) -/

theorem State.judgePermit_other (h : s.feeder.state ≠ .waitPermit) : s.judgePermit = s := if_neg h

theorem State.judgePermit_empty (h : s.feeder.state = .waitPermit) (hq : s.table.shredQueue = []) :
    s.judgePermit = s.feederUntimed .idle := by
  rw [State.judgePermit, if_pos h, if_pos hq]

theorem State.judgePermit_queue (h : s.feeder.state = .waitPermit) (hq : s.table.shredQueue ≠ []) :
    s.judgePermit = if s.permit then s.enterOpening else s := by
  rw [State.judgePermit, if_pos h, if_neg hq]

/-- The head taken into FEEDING (R14). -/
theorem State.takeHead_eq {rest : List Slot} (hq : s.table.shredQueue = i :: rest) : s.takeHead = { s with
    table := { s.table with
      slots := s.table.slots.set i ((s.record i).map fun r => { r with phase := .feeding })
      shredQueue := rest
      feeding := some i } } := by
  rw [State.takeHead, hq]
  rfl

/-- The entry to OPENING, and through an open gate to PASSING (R74, R75). -/
theorem State.enterOpening_eq {rest : List Slot} (hq : s.table.shredQueue = i :: rest) : s.enterOpening = { s with
    table := { s.table with
      slots := s.table.slots.set i ((s.record i).map fun r => { r with phase := .feeding })
      shredQueue := rest
      feeding := some i }
    feeder := if s.pins.gateClosed = true then
        { s.feeder with
          state := .opening, copied := some (s.item iTOpen)
          deadline := some (s.clock + BitVec.ofNat 32 (s.item iTOpen)) }
      else
        { s.feeder with
          state := .passing, copied := some (s.item iTPass)
          deadline := some (s.clock + BitVec.ofNat 32 (s.item iTPass)) } } := by
  rw [State.enterOpening, State.takeHead_eq hq]
  cases hg : s.pins.gateClosed <;> simp only [State.feederTimed, hg] <;> rfl

theorem State.judgeIdle_eq (h : s.feeder.state = .idle) :
    s.judgeIdle = if s.table.shredQueue = [] then s else (s.feederUntimed .waitPermit).judgePermit := by
  by_cases hq : s.table.shredQueue = []
  · rw [State.judgeIdle, if_neg (fun hn => hn.2 hq), if_pos hq]
  · rw [State.judgeIdle, if_pos ⟨h, hq⟩, if_neg hq]

/-- The entry to IDLE: with a queue the Feeder goes on to WAIT_PERMIT and judges (R72, R73). -/
theorem State.feederToIdle_eq (s : State) : s.feederToIdle =
    if s.table.shredQueue = [] then s.feederUntimed .idle else (s.feederUntimed .waitPermit).judgePermit :=
  State.judgeIdle_eq rfl

/-- Settles O32: by the two branches of the judgement, and the queue's head. -/
theorem feedPermit : Obligations.FeedPermit := by
  intro s
  refine ⟨State.judgePermit_other, State.judgePermit_empty, fun i rest permit hw hq hpermit => ?_, s.feederToIdle_eq⟩
  rw [State.judgePermit_queue hw (by simp [hq])]
  rw [← State.permit_iff hq] at hpermit
  refine ⟨fun hn => if_neg (mt hpermit.mpr hn), fun hp => ?_⟩
  rw [if_pos (hpermit.mp hp)]
  exact State.enterOpening_eq hq

/-! ### The feed event (R15, R76, R103) -/

theorem State.modRecord_eq {f : Record → Record} (hr : s.record i = some r) :
    s.modRecord i f = { s with table := { s.table with slots := s.table.slots.set i (some (f r)) } } := by
  have hs : s.table.slots[i] = some r := hr
  simp only [State.modRecord, Table.mod, Table.put, hs, Option.map_some]

theorem State.feedEvent_eq (hf : s.table.feeding = some i) (hr : s.record i = some r) (t : Time) (b : Bool) :
    s.feedEvent t b = { s with
      table := { s.table with
        slots := s.table.slots.set i (some (r.fed t (s.item iNSettle) b))
        openSet := s.table.openSet ++ [i]
        feeding := none }
      feeder := { s.feeder with lastFeed := some t } } := by
  have hs : s.table.slots[i] = some r := hr
  simp only [State.feedEvent, State.feedRecord, hf, Table.mod, Table.put, hs, Option.map_some, Record.fed]

/-- The flag of FEED CLEAR alone differs between the two feed events (R78). -/
theorem Record.fed_edge (r : Record) (t : Time) (k : Nat) :
    r.fed t k false = { r with phase := .shredding, feedTime := some t, ticks := some k } := by
  simp [Record.fed, Record.flagIf, Flags.setIf]

theorem Record.fed_host (r : Record) (t : Time) (k : Nat) : r.fed t k true = { r with
    phase := .shredding, feedTime := some t, ticks := some k, flags := { r.flags with feedClearedByHost := true } } := by
  simp [Record.fed, Record.flagIf, Flags.setIf]

theorem State.enterClosing_eq (s : State) :
    s.enterClosing = if s.pins.gateClosed then (s.feederTimed .closing iTClose).feederToIdle else s.feederTimed .closing iTClose :=
  rfl

/-- Entry to IDLE forgets the timed state it leaves (R71, R72). -/
theorem State.returnToHead_eq (hf : s.table.feeding = some i) (hr : s.record i = some r) : s.returnToHead = { s with
    table := { s.table with
      slots := s.table.slots.set i (some { r with phase := .shredWait })
      shredQueue := i :: s.table.shredQueue
      feeding := none } } := by
  have hs : s.table.slots[i] = some r := hr
  simp only [State.returnToHead, hf, Table.mod, Table.put, hs, Option.map_some]

end Feeder

/-- Settles O33: each event by the state of its pin and of the Feeder. -/
theorem gateCycle : Obligations.GateCycle := by
  intro s
  refine ⟨fun b hb => ?_, fun hg => ⟨fun ho => ?_, fun ho => ?_⟩, fun hp => ?_, fun i r t hp hf hr ht => ?_,
    fun hg => ⟨fun hc => ?_, fun hc => ?_⟩⟩
  · simp only [exec, execShredderRunningChange, State.shredderRuns, if_neg hb]
  · simp only [exec, execGateClosedFalse, State.gateOpened, hg, ho, Bool.not_true, Bool.false_eq_true, if_false, if_true]
    rfl
  · simp only [exec, execGateClosedFalse, State.gateOpened, hg, ho, Bool.not_true, Bool.false_eq_true, if_false]
  · simp only [exec, execFeedCapture, State.beamCleared, State.feedArmed, beq_iff_eq, hp, if_false]
  · have hcap : exec .feedCapture s
        = .next (State.enterClosing (State.feedEvent { s with pins := { s.pins with beam := false } } s.clock false)) := by
      simp only [exec, execFeedCapture, State.beamCleared, State.feedArmed, hp, beq_self_eq_true, if_true]
    have hfeed := State.feedEvent_eq (s := { s with pins := { s.pins with beam := false } }) hf hr s.clock false
    rw [hcap, hfeed, Record.fed_edge, State.enterClosing_eq]
    subst ht
    refine ⟨fun hg => ?_, fun hg => ?_⟩ <;> simp only [hg, Bool.false_eq_true, if_false, if_true] <;> rfl
  · simp only [exec, execGateClosedTrue, State.gateShut, hg, hc, Bool.false_eq_true, if_false, if_true]
  · simp only [exec, execGateClosedTrue, State.gateShut, hg, hc, Bool.false_eq_true, if_false]

/-! ### The Feeder and the link -/

section Link

variable (s : State) (l : Link)

/-- The judgement of the permit neither reads nor changes the link. -/
theorem State.judgePermit_link : State.judgePermit { s with link := l } = { s.judgePermit with link := l } := by
  by_cases hw : s.feeder.state = .waitPermit
  · cases hq : s.table.shredQueue with
    | nil =>
      rw [State.judgePermit_empty hw hq]
      exact State.judgePermit_empty (s := { s with link := l }) hw hq
    | cons i rest =>
      have hopen : State.enterOpening { s with link := l } = { s.enterOpening with link := l } := by
        rw [State.enterOpening_eq hq, State.enterOpening_eq (s := { s with link := l }) hq]
        rfl
      have hl := State.judgePermit_queue (s := { s with link := l }) hw (by simp [hq])
      have hpermit : State.permit { s with link := l } = s.permit := rfl
      rw [State.judgePermit_queue hw (by simp [hq]), hl, hopen, hpermit]
      cases s.permit <;> rfl
  · rw [State.judgePermit_other hw]
    exact State.judgePermit_other (s := { s with link := l }) hw

theorem State.feederToIdle_link : State.feederToIdle { s with link := l } = { s.feederToIdle with link := l } := by
  rw [s.feederToIdle_eq, State.feederToIdle_eq { s with link := l }]
  split
  · rfl
  · exact (s.feederUntimed .waitPermit).judgePermit_link l

end Link

/-! ### The owner's view of a request (R183, R184) -/

/-- The state an owner is asked in: the request's frame is counted and the reply is due. -/
abbrev State.asked (s : State) : State := { s with link := s.link.accept }

/-- The step of a request whose owner answers `a` and leaves `u`. -/
theorem next_request {s u : State} {k g : Byte} {owner : State → State × Answer} {a : Answer} (hrx : s.link.rx ≠ .replying)
    (ho : owner s.asked = ({ u with link := s.link.accept }, a)) (hu : u.link = s.link := by rfl) :
    (.next (s.request k g owner) : Host.Outcome State Fault Refusal) = .next (u.replied k g a) :=
  congrArg _ (State.request_replied hrx ho hu)

/-! ### The jams (R74, R75, R77, R78) -/

theorem State.enterJam_eq (s : State) (c : JamCause) : s.enterJam c = { s with
    feeder := { s.feeder with state := .jammed, jam := some c, copied := none, deadline := none }
    arb := s.arb.raise s.clock srcFeedJam (s.table.feeding.map Fin.val) (some (.jam c)) } := rfl

theorem State.due_of {s : State} {d : Option Time} (h : d = some s.clock) : s.due d = true := by simp [State.due, h]

theorem State.openExpired_eq {s : State} {i : Slot} {r : Record} (hd : s.feeder.deadline = some s.clock)
    (ho : s.feeder.state = .opening) (hf : s.table.feeding = some i) (hr : s.record i = some r) : s.openExpired = { s with
      table := { s.table with
        slots := s.table.slots.set i (some { r with phase := .shredWait })
        shredQueue := i :: s.table.shredQueue
        feeding := none }
      feeder := { s.feeder with state := .jammed, jam := some .gateStuck, copied := none, deadline := none }
      arb := s.arb.raise s.clock srcFeedJam none (some (.jam .gateStuck)) } := by
  rw [State.openExpired, if_pos ⟨ho, State.due_of hd⟩, State.returnToHead_eq hf hr, State.enterJam_eq]
  rfl

/-- The three timeouts of the gate. -/
theorem exec_gate_expiries (s : State) (hd : s.feeder.deadline = some s.clock) :
    (∀ i r, s.feeder.state = .opening → s.table.feeding = some i → s.record i = some r →
      exec .tOpenExpiry s = .next { s with
        table := { s.table with
          slots := s.table.slots.set i (some { r with phase := .shredWait })
          shredQueue := i :: s.table.shredQueue
          feeding := none }
        feeder := { s.feeder with state := .jammed, jam := some .gateStuck, copied := none, deadline := none }
        arb := s.arb.raise s.clock srcFeedJam none (some (.jam .gateStuck)) })
    ∧ (s.feeder.state = .passing → exec .tPassExpiry s = .next (s.enterJam .feedJam))
    ∧ (s.feeder.state = .closing → exec .tCloseExpiry s = .next (s.enterJam .gateStuck)) := by
  refine ⟨fun i r ho hf hr => ?_, fun hp => ?_, fun hc => ?_⟩
  · exact congrArg _ (State.openExpired_eq hd ho hf hr)
  · exact congrArg _ (if_pos ⟨hp, State.due_of hd⟩)
  · exact congrArg _ (if_pos ⟨hc, State.due_of hd⟩)

/-- A jammed Feeder freed, whatever the link (R78). -/
theorem State.freeJam_link (s : State) (l : Link) : State.freeJam { s with link := l } = { s.freeJam with link := l } :=
  State.feederToIdle_link { s with feeder := { s.feeder with jam := none } } l

theorem State.freeJam_frame_link (s : State) : s.freeJam.link = s.link := by rw [s.freeJam_frame]

section Requests

variable {s : State} {tag : Byte} {i : Slot} {r : Record}

/-- A refused FEED CLEAR and FEED RETURN (R78). -/
theorem exec_jam_refused {st : Status} (hrx : s.link.rx ≠ .replying) (h : s.jamCheck = some st) :
    exec (.feedClear tag) s = .next (s.replied 13 tag (bare st)) ∧ exec (.feedReturn tag) s = .next (s.replied 14 tag (bare st)) := by
  have h' : s.asked.jamCheck = some st := h
  refine ⟨next_request hrx ?_, next_request hrx ?_⟩
  · rw [ansFeedClear, h']
  · rw [ansFeedReturn, h']

/-- FEED CLEAR and FEED RETURN taken (R78): `u` and `v` are what each makes of the feeding record. -/
theorem exec_jam_freed {u v : State} (hrx : s.link.rx ≠ .replying) (h : s.jamCheck = none) (hu : u.link = s.link)
    (hv : v.link = s.link)
    (hclear : ∀ l, (if s.table.feeding.isSome then State.feedEvent { s with link := l } s.clock true else { s with link := l })
      = { u with link := l })
    (hreturn : ∀ l, State.returnToHead { s with link := l } = { v with link := l }) :
    exec (.feedClear tag) s = .next (u.freeJam.replied 13 tag (bare .done))
      ∧ exec (.feedReturn tag) s = .next (v.freeJam.replied 14 tag (bare .done)) := by
  have h' : s.asked.jamCheck = none := h
  refine ⟨next_request hrx ?_ (u.freeJam_frame_link.trans hu), next_request hrx ?_ (v.freeJam_frame_link.trans hv)⟩
  · rw [ansFeedClear, h', ← State.freeJam_link, ← hclear]
  · rw [ansFeedReturn, h', ← State.freeJam_link, ← hreturn]

end Requests

/-- Settles O34: the expiries by their states, the two requests by the cases of their check. -/
theorem jams : Obligations.Jams := by
  refine ⟨fun s hd => exec_gate_expiries s hd, fun s tag hrx => ⟨fun hj => ?_, fun hj hg => ?_, fun hj hg => ?_⟩⟩
  · exact exec_jam_refused hrx (by simp [State.jamCheck, hj])
  · exact exec_jam_refused hrx (by simp [State.jamCheck, hj, hg])
  · have hcheck : s.jamCheck = none := by simp [State.jamCheck, hj, hg]
    refine ⟨fun hf => ⟨_, rfl, exec_jam_freed hrx hcheck (u := s) (v := s) rfl rfl (fun l => ?_) fun l => ?_⟩,
      fun i r hf hr => ?_⟩
    · simp [hf]
    · simp only [State.returnToHead, hf]
    · have hfree := exec_jam_freed (tag := tag) (u := s.feedEvent s.clock true) (v := s.returnToHead) hrx hcheck
        (by rw [s.feedEvent_frame]) (by rw [s.returnToHead_frame])
        (fun l => by rw [hf, State.feedEvent_eq hf hr]; exact State.feedEvent_eq (s := { s with link := l }) hf hr _ _)
        fun l => by rw [State.returnToHead_eq hf hr]; exact State.returnToHead_eq (s := { s with link := l }) hf hr
      rw [State.feedEvent_eq hf hr, State.returnToHead_eq hf hr, Record.fed_host] at hfree
      exact hfree

end Sys2Proof.Machine
end

section
/-! The stations' requests and their way to PIERCING (`Obligations.BeginExtraction`, `Obligations.BeforePiercing`,
`Obligations.StationRequests`). -/

namespace Sys2Proof.Machine

/-! ### Changes of one record and one station, written out -/

section Changes

variable {s : State} {i : Slot} {r : Record} {n : StationNo}

theorem State.modRecord_modRecord (hr : s.record i = some r) (f g : Record → Record) :
    (s.modRecord i f).modRecord i g = s.modRecord i fun r => g (f r) := by
  rw [State.modRecord_eq (s := s.modRecord i f) (r := f r) (by simp [hr]), State.modRecord_eq hr, State.modRecord_eq hr]
  simp

theorem State.modStation_modRecord (s : State) (n : StationNo) (g : Station → Station) (i : Slot) (f : Record → Record) :
    (s.modStation n g).modRecord i f = (s.modRecord i f).modStation n g := rfl

/-! ### TARING (R32) -/

/-- A station in TARING. -/
def Station.taring (deadline : Time) (x : Station) : Station := { x with state := .taring, deadline := some deadline }

theorem State.enterTaring_unsettled (h : s.ringsSettled n = false) :
    s.enterTaring n = s.modStation n (Station.taring (after s.clock (s.item iTSettle))) := by
  have hr : (s.enterTimed n .taring (s.item iTSettle)).ringsSettled n = false := h
  rw [State.enterTaring, State.judgeRings, hr]
  rfl

/-- Settled rings lead from TARING to PIERCING in the same step: the tare is recorded and the attempt counted (R4, R32). -/
theorem State.enterTaring_settled (h : s.ringsSettled n = true) (hb : (s.station n).bound = some i) :
    s.enterTaring n = (s.modRecord i (Record.attempt n)).modStation n
      (Station.piercing (s.channel (scaleChannel n)).settledValue (s.channel (cupChannel n)).settledValue
        (after s.clock (s.item iTPierce))) := by
  have hr : (s.enterTimed n .taring (s.item iTSettle)).ringsSettled n = true := h
  have hs : ((s.enterTimed n .taring (s.item iTSettle)).station n).state = .taring := by
    rw [State.enterTimed_station, if_pos rfl]
  have hb' : ((s.enterTimed n .taring (s.item iTSettle)).station n).bound = some i := by
    rw [State.enterTimed_station, if_pos rfl]; exact hb
  rw [State.enterTaring, State.judgeRings, hr, if_pos rfl, hs]
  simp only
  rw [State.enterPiercing_eq hb', State.modStation_modRecord, State.enterTimed, State.modStation_modRecord,
    State.modStation_modStation]
  rfl

end Changes

/-! ### BEGIN EXTRACTION (R29, R30) -/

section Begin

variable {s : State} {tag : Byte} {ident : Word} {station : Byte} {n : StationNo} {i : Slot} {r : Record}

theorem State.beginAttempt_open (hc : s.pins.clamp[n] = false) : s.beginAttempt n i =
    (s.modRecord i (Record.bind n)).modStation n (Station.begun i (after s.clock (s.item iTClamp))) := by
  rw [State.beginAttempt_eq, hc]; rfl

theorem State.beginAttempt_taring (hc : s.pins.clamp[n] = true) (h : s.ringsSettled n = false) : s.beginAttempt n i =
    (s.modRecord i (Record.bind n)).modStation n fun x =>
      (x.begun i (after s.clock (s.item iTClamp))).taring (after s.clock (s.item iTSettle)) := by
  rw [State.beginAttempt_eq, hc, if_pos rfl]
  refine (State.enterTaring_unsettled ?_).trans (State.modStation_modStation _ _ _ _)
  exact h

theorem State.beginAttempt_piercing (hr : s.record i = some r) (hc : s.pins.clamp[n] = true) (h : s.ringsSettled n = true) :
    s.beginAttempt n i = (s.modRecord i fun r => (r.bind n).attempt n).modStation n fun x =>
      (x.begun i (after s.clock (s.item iTClamp))).piercing (s.channel (scaleChannel n)).settledValue
        (s.channel (cupChannel n)).settledValue (after s.clock (s.item iTPierce)) := by
  rw [State.beginAttempt_eq, hc, if_pos rfl]
  refine (State.enterTaring_settled (i := i) ?_ ?_).trans ?_
  · exact h
  · rw [State.modStation_station, if_pos rfl]
    rfl
  · rw [State.modStation_modRecord, State.modStation_modStation, State.modRecord_modRecord hr]
    rfl

theorem exec_begin_badField (hrx : s.link.rx ≠ .replying) (h : ident = 0 ∨ stationOf station = none) :
    exec (.beginExtraction tag ident station) s = .next (s.replied 7 tag (bare .badField)) := by
  refine next_request hrx ?_
  by_cases h0 : ident = 0
  · rw [ansBegin, if_pos h0]
  · rw [ansBegin, if_neg h0, h.resolve_left h0]

theorem exec_begin_refused {st : Status} (hrx : s.link.rx ≠ .replying) (h0 : ident ≠ 0) (hn : stationOf station = some n)
    (h : s.beginCheck n ident = .error st) :
    exec (.beginExtraction tag ident station) s = .next (s.replied 7 tag (bare st)) := by
  have h' : s.asked.beginCheck n ident = .error st := h
  refine next_request hrx ?_
  rw [ansBegin, if_neg h0, hn]
  simp only
  rw [h']

/-- A BEGIN EXTRACTION taken: `u` is the state its attempt starts in. -/
theorem exec_begin_accepted {u : State} (hrx : s.link.rx ≠ .replying) (h0 : ident ≠ 0) (hn : stationOf station = some n)
    (h : s.beginCheck n ident = .ok i) (hr : s.record i = some r)
    (hu : ∀ l, State.beginAttempt { s with link := l } n i = { u with link := l }) (hl : u.link = s.link) :
    exec (.beginExtraction tag ident station) s = .next (u.replied 7 tag
      ⟨.accepted, false, [BitVec.ofNat 8 (n.val + 1), BitVec.ofNat 8 i.val, BitVec.ofNat 8 r.attempts]⟩) := by
  have h' : s.asked.beginCheck n ident = .ok i := h
  have hr' : s.asked.record i = some r := hr
  refine next_request hrx ?_ hl
  rw [ansBegin, if_neg h0, hn]
  simp only
  rw [h']
  simp only [hr', hu]
  rfl

theorem State.beginCheck_record (hl : s.line.state = .run) (hf : s.fitted n = true) (hs : (s.station n).state = .idle)
    (hid : s.findIdent ident = some i) (hr : s.record i = some r) : s.beginCheck n ident =
      if r.phase ≠ .queued then .error .wrongPhase
      else if 2 ≤ r.attempts then .error .attemptsSpent
      else if (s.item (iFill n) : Int) ≤ (s.channel (scaleChannel n)).value then .error .receiverFull
      else if !(s.station n).receiver.contaminated && ((s.station n).receiver.assigned == none || r.declared == none
          || r.declared == (s.station n).receiver.assigned) then .ok i
      else .error .classConflict := by
  simp only [State.beginCheck, hl, hf, hs, hid, hr, ne_eq, not_true_eq_false, if_false, Bool.not_true, Bool.false_eq_true]

end Begin

/-- Settles O35: the checks in their order, then the three places an attempt can reach in its first step. -/
theorem beginExtraction : Obligations.BeginExtraction := by
  intro s tag ident station hrx
  refine ⟨exec_begin_badField hrx, fun n h0 hn => ⟨fun hl => ?_, fun hl hf => ?_, fun hl hf hs => ?_, fun hl hf hs =>
    ⟨fun hid => ?_, fun i r hr hri hu => ?_⟩⟩⟩
  · exact exec_begin_refused hrx h0 hn (by simp [State.beginCheck, hl])
  · exact exec_begin_refused hrx h0 hn (by simp [State.beginCheck, hl, hf])
  · exact exec_begin_refused hrx h0 hn (by simp [State.beginCheck, hl, hf, hs])
  · exact exec_begin_refused hrx h0 hn (by simp [State.beginCheck, hl, hf, hs, State.findIdent_none hid])
  · have hcheck := State.beginCheck_record hl hf hs (State.findIdent_of_unique hr hri hu) hr
    refine ⟨fun hp => ?_, fun hp ha => ?_, fun hp ha hfull => ?_, fun hp ha hfill => ⟨fun hconf => ?_, fun hclean hcls => ?_⟩⟩
    · exact exec_begin_refused hrx h0 hn (by rw [hcheck, if_pos hp])
    · exact exec_begin_refused hrx h0 hn (by rw [hcheck, if_neg (by simp [hp]), if_pos ha])
    · exact exec_begin_refused hrx h0 hn (by rw [hcheck, if_neg (by simp [hp]), if_neg (by omega), if_pos hfull])
    · refine exec_begin_refused hrx h0 hn ?_
      rw [hcheck, if_neg (by simp [hp]), if_neg (by omega), if_neg (by omega), if_neg]
      rcases hconf with hc | ⟨a, hasg, hd, hda⟩
      · simp [hc]
      · simp [hasg, hd, hda]
    · have hok : s.beginCheck n ident = .ok i := by
        rw [hcheck, if_neg (by simp [hp]), if_neg (by omega), if_neg (by omega), if_pos]
        simpa [hclean, or_assoc] using hcls
      intro a q x ha' hq hx
      subst ha' hq hx
      refine ⟨fun hc => ?_, fun hc hrings => ?_, fun hc hrings => ?_⟩
      · refine exec_begin_accepted hrx h0 hn hok hr (fun l => ?_) rfl
        rw [State.beginAttempt_open (s := { s with link := l }) hc, State.modRecord_eq (s := { s with link := l }) hr]
        rfl
      · refine exec_begin_accepted hrx h0 hn hok hr (fun l => ?_) rfl
        rw [State.beginAttempt_taring (s := { s with link := l }) hc hrings, State.modRecord_eq (s := { s with link := l }) hr]
        rfl
      · refine exec_begin_accepted hrx h0 hn hok hr (fun l => ?_) rfl
        rw [State.beginAttempt_piercing (s := { s with link := l }) hr hc hrings,
          State.modRecord_eq (s := { s with link := l }) hr]
        rfl

/-! ### Before PIERCING (R31, R32, R48, R54) -/

section BeforePiercing

variable {s : State} {n : StationNo} {i : Slot} {r : Record}

theorem State.clampClosed_of_open (h : s.pins.clamp[n] = false) : s.clampClosed n =
    if (s.station n).state = .clamping
      then State.enterTaring { s with pins := { s.pins with clamp := s.pins.clamp.set n true } } n
      else { s with pins := { s.pins with clamp := s.pins.clamp.set n true } } := by
  rw [State.clampClosed, h]; rfl

theorem State.faultUnpierced_eq (hb : (s.station n).bound = some i) (hr : s.record i = some r) (c : FaultCause) :
    s.faultUnpierced n c = { s with
      table := { s.table with slots := s.table.slots.set i (some r.unbind) }
      stations := s.stations.set n ((s.station n).faulted c)
      arb := s.arb.raise s.clock (srcStationFault n) (some i.val) (some (.fault c)) } := by
  rw [State.faultUnpierced, State.returnBound_eq hb, hb, State.modRecord_eq hr]
  rfl

theorem State.expires_of {x : StationState} (hs : (s.station n).state = x) (hd : (s.station n).deadline = some s.clock) :
    s.expires n x = true := by
  simp [State.expires, hs, State.due_of hd]

end BeforePiercing

/-- Settles O37: the clamp closing by the station's state and its rings, the two expiries by the fault they lead to. -/
theorem beforePiercing : Obligations.BeforePiercing := by
  refine ⟨fun s n => ⟨fun hc => ?_, fun hc hs => ?_⟩, fun s n i r hb hr => ⟨fun hc hs p hp => ⟨fun hrings => ?_, fun hrings => ?_⟩,
    fun c t hd ht => ⟨fun hs hcause => ?_, fun hs hcause => ?_⟩⟩⟩
  · exact congrArg _ (if_pos hc)
  · exact congrArg _ ((State.clampClosed_of_open hc).trans (if_neg hs))
  · subst hp
    refine congrArg _ ((State.clampClosed_of_open hc).trans ((if_pos hs).trans ?_))
    exact State.enterTaring_unsettled hrings
  · subst hp
    refine congrArg _ ((State.clampClosed_of_open hc).trans ((if_pos hs).trans ?_))
    refine (State.enterTaring_settled (s := { s with pins := { s.pins with clamp := s.pins.clamp.set n true } }) hrings hb).trans ?_
    rw [State.modRecord_eq (s := { s with pins := { s.pins with clamp := s.pins.clamp.set n true } }) hr]
    rfl
  · subst ht hcause
    exact congrArg _ ((if_pos (State.expires_of hs hd)).trans (State.faultUnpierced_eq hb hr _))
  · subst ht hcause
    exact congrArg _ ((if_pos (State.expires_of hs hd)).trans (State.faultUnpierced_eq hb hr _))

/-! ### WAIVE EXTRACTION, CLEAR STATION, RECEIVER CHANGED (R49 to R51) -/

section Requests

variable {s : State} {tag : Byte} {ident : Word} {station : Byte} {n : StationNo} {i : Slot} {r : Record}

theorem exec_waive_badField (hrx : s.link.rx ≠ .replying) (h0 : ident = 0) :
    exec (.waiveExtraction tag ident) s = .next (s.replied 9 tag (bare .badField)) :=
  next_request hrx (by rw [ansWaive, if_pos h0])

theorem exec_waive_stopped (hrx : s.link.rx ≠ .replying) (h0 : ident ≠ 0) (hl : s.line.state = .stop) :
    exec (.waiveExtraction tag ident) s = .next (s.replied 9 tag (bare .lineState)) :=
  next_request hrx (by rw [ansWaive, if_neg h0]; exact if_pos hl)

theorem ansWaive_found (h0 : ident ≠ 0) (hl : s.line.state ≠ .stop) (hid : s.findIdent ident = some i)
    (hr : s.record i = some r) : ansWaive ident s =
      if r.phase = .queued then (s.modRecord i fun r => r.extract .waived, bare .done) else (s, bare .wrongPhase) := by
  rw [ansWaive, if_neg h0, if_neg hl, hid]
  simp only [hr, Option.map_some, Option.some.injEq]

theorem ansWaive_absent (h0 : ident ≠ 0) (hl : s.line.state ≠ .stop) (hid : s.findIdent ident = none) :
    ansWaive ident s = (s, bare .noSuchAppliance) := by
  rw [ansWaive, if_neg h0, if_neg hl, hid]

theorem Record.extract_eq (r : Record) (v : Verdict) : r.extract v = { r with
    phase := .extracted, bound := none, verdict := some v
    rho := if r.charge = 0 then none else some (min 1999 (r.mr * 1000 / r.charge))
    flags := { r.flags with
      ratioSaturated := r.flags.ratioSaturated || decide (r.charge ≠ 0 ∧ 1999 * r.charge < r.mr * 1000) } } := by
  have hsat : (r.charge != 0 && ratioExceeds r.mr r.charge) = decide (r.charge ≠ 0 ∧ 1999 * r.charge < r.mr * 1000) := by
    rw [Bool.eq_iff_iff]
    simp [ratioExceeds_iff]
  rw [Record.extract, hsat]
  rfl

/-- A request at a station that is no station, or not fitted, is refused so (R25). -/
theorem atStation_refused {a : Answer} (f : StationNo → State × Answer) (h : stationOf station = none ∧ a = bare .badField
      ∨ ∃ n, stationOf station = some n ∧ s.fitted n = false ∧ a = bare .stationNotFitted) :
    atStation station s f = (s, a) := by
  rcases h with ⟨hn, rfl⟩ | ⟨n, hn, hf, rfl⟩
  · rw [atStation, hn]
  · rw [atStation, hn]
    simp only [hf, Bool.false_eq_true, if_false]

theorem atStation_fitted (f : StationNo → State × Answer) (hn : stationOf station = some n) (hf : s.fitted n = true) :
    atStation station s f = f n := by
  rw [atStation, hn]
  exact if_pos hf

end Requests

/-- Settles O44: WAIVE EXTRACTION by its checks in their order, the station's requests by the station's state. -/
theorem stationRequests : Obligations.StationRequests := by
  intro s tag hrx
  refine ⟨fun ident => ⟨exec_waive_badField hrx, exec_waive_stopped hrx, fun h0 hl hid => ?_, fun i r h0 hl hr hri hu =>
    ⟨fun hp => ?_, fun hp => ?_⟩⟩, fun station a h => ⟨?_, ?_, ?_⟩, fun station n hn hf => ⟨fun hs => ?_, fun hs => ?_,
    fun hs => ?_, fun hs => ?_⟩⟩
  · refine next_request hrx ?_
    exact ansWaive_absent (s := s.asked) h0 hl (State.findIdent_none hid)
  · refine next_request hrx ?_
    exact (ansWaive_found (s := s.asked) h0 hl (State.findIdent_of_unique (s := s) hr hri hu) hr).trans (if_neg hp)
  · refine next_request hrx ?_
    refine (ansWaive_found (s := s.asked) h0 hl (State.findIdent_of_unique (s := s) hr hri hu) hr).trans ((if_pos hp).trans ?_)
    rw [State.modRecord_eq (s := s.asked) hr, Record.extract_eq]
  · exact next_request hrx (atStation_refused (s := s.asked) _ h)
  · exact next_request hrx (atStation_refused (s := s.asked) _ h)
  · exact next_request hrx (atStation_refused (s := s.asked) _ h)
  · exact next_request hrx ((atStation_fitted (s := s.asked) _ hn hf).trans (if_neg hs))
  · refine next_request hrx ((atStation_fitted (s := s.asked) _ hn hf).trans ((if_pos hs).trans ?_))
    rw [State.enterAwait_eq, State.modStation_modStation]
    rfl
  · exact next_request hrx ((atStation_fitted (s := s.asked) _ hn hf).trans (if_neg hs))
  · exact next_request hrx ((atStation_fitted (s := s.asked) _ hn hf).trans (if_pos hs))

end Sys2Proof.Machine
end

section
/-! The probe and the end of EVACUATING by T_evac (`Obligations.ProbeAndEvacuationTimeout`), and CLEAR LINE
(`Obligations.ClearLine`). -/

namespace Sys2Proof.Machine

section Probe

variable {s : State} {n : StationNo} {i : Slot} {r : Record} {pair : BitVec 2}

/-! ### The probe's record and class (R35, R36) -/

theorem gasOfPair_eq_none : gasOfPair pair = none ↔ pair = 0 := by
  revert pair; decide

/-- The class an attempt is fixed to, by the pair as it was read (R36). -/
theorem Record.attemptClass_eq (r : Record) (pair : BitVec 2) : r.attemptClass (gasOfPair pair) =
    if pair ≠ 0 then gasOfPair pair else if r.measured ≠ none then r.measured else r.declared := by
  cases hg : gasOfPair pair with
  | none =>
    rw [if_neg (not_not.mpr (gasOfPair_eq_none.mp hg))]
    cases hm : r.measured <;> simp [Record.attemptClass, hm]
  | some g =>
    rw [if_pos (fun h => by simp [gasOfPair_eq_none.mpr h] at hg)]
    rfl

theorem Record.mismatches_iff (r : Record) (g : Gas) : r.mismatches g = true ↔
    (∃ d, r.declared = some d ∧ d ≠ g) ∨ ∃ m, r.measured = some m ∧ m ≠ g := by
  simp [Record.mismatches, Option.any_eq_true]

theorem Record.probed_eq (r : Record) (g : Gas) (b : Bool) : r.probed g b = { r with
    measured := if r.measured = none then some g else r.measured
    flags := { r.flags with
      flammable := r.flags.flammable || (r.measured == none && g == .hydro)
      classMismatch := r.flags.classMismatch || b } } := by
  cases hm : r.measured <;> simp [Record.probed, Record.flagIf, Flags.setIf, hm]

/-- A station as its probe leaves it. -/
def Station.probedAs (c : Option Gas) (x : Station) : Station :=
  { x with probeTaken := true, probeDeadline := none, attemptClass := c }

/-- The record, the notice and the station after a probe, before its judgement against the receiver. -/
def State.afterProbe (s : State) (n : StationNo) (i : Slot) (r : Record) (pair : BitVec 2) : State :=
  ((s.analyserSeen n pair).probeRecord i r (gasOfPair pair)).modStation n
    (Station.probedAs (r.attemptClass (gasOfPair pair)))

theorem State.probeRecord_modStation (s : State) (i : Slot) (r : Record) (g : Option Gas) (f : Station → Station) :
    (s.modStation n f).probeRecord i r g = (s.probeRecord i r g).modStation n f := by
  unfold State.probeRecord
  cases g with
  | none => rfl
  | some g => simp only; split <;> rfl

/-- What the judgement of the probe makes of the state after it (R36). -/
def State.settleProbe (t : State) (n : StationNo) (i : Slot) : ProbeOutcome → State
  | .conflict => t.enterAbortWeighing n .conflict
  | .undetermined => (t.modRecord i (Record.flag .classUndetermined)).enterAbortWeighing n .undetermined
  | .assign g => t.modStation n fun x => { x with receiver := { x.receiver with assigned := some g } }
  | .carryOn _ => t

theorem State.takeProbe_eq (hb : (s.station n).bound = some i) (hr : s.record i = some r) :
    (s.analyserSeen n pair).takeProbe n pair =
      (s.afterProbe n i r pair).settleProbe n i (probeOutcome r (s.station n).receiver (gasOfPair pair)) := by
  have hb' : ((s.analyserSeen n pair).station n).bound = some i := hb
  have hr' : (s.analyserSeen n pair).record i = some r := hr
  have ht : State.modStation
      (((s.analyserSeen n pair).modStation n fun x => { x with probeTaken := true, probeDeadline := none }).probeRecord i r
        (gasOfPair pair)) n (fun x => { x with attemptClass := r.attemptClass (gasOfPair pair) })
      = s.afterProbe n i r pair := by
    rw [State.probeRecord_modStation, State.modStation_modStation]
    rfl
  rw [State.takeProbe, hb']
  simp only [hr']
  unfold State.judgeProbe
  rw [ht]
  show _ = State.settleProbe _ n i (probeOutcome r ((s.analyserSeen n pair).station n).receiver (gasOfPair pair))
  cases probeOutcome r ((s.analyserSeen n pair).station n).receiver (gasOfPair pair) <;> rfl

theorem exec_probe (hs : (s.station n).state = .evacuating) (hd : (s.station n).probeDeadline = some s.clock)
    (hb : (s.station n).bound = some i) (hr : s.record i = some r) : exec (.probe n pair) s
      = .next ((s.afterProbe n i r pair).settleProbe n i (probeOutcome r (s.station n).receiver (gasOfPair pair))) := by
  rw [← State.takeProbe_eq hb hr]
  exact congrArg _ (if_pos ⟨hs, State.due_of hd⟩)

theorem State.afterProbe_blank (hg : gasOfPair pair = none) : s.afterProbe n i r pair = { s with
    pins := { s.pins with analyser := s.pins.analyser.set n pair }
    stations := s.stations.set n ((s.station n).probedAs (r.attemptClass (gasOfPair pair))) } := by
  rw [State.afterProbe, hg]; rfl

theorem State.afterProbe_gas {g : Gas} (hg : gasOfPair pair = some g) (hr : s.record i = some r) :
    s.afterProbe n i r pair = { s with
      pins := { s.pins with analyser := s.pins.analyser.set n pair }
      table := { s.table with slots := s.table.slots.set i (some (r.probed g (r.mismatches g))) }
      stations := s.stations.set n ((s.station n).probedAs (r.attemptClass (gasOfPair pair)))
      arb := if r.mismatches g = true then s.arb.raise s.clock srcClassMismatch (some i.val) (some (.gas g)) else s.arb } := by
  have hmod := State.modRecord_eq (s := s.analyserSeen n pair) (f := fun r => r.probed g (r.mismatches g)) hr
  rw [State.afterProbe, hg, State.probeRecord]
  simp only [hmod]
  cases r.mismatches g <;> rfl

/-! ### The judgement against the receiver (R36) -/

theorem probeOutcome_differs {g m : Gas} {rc : Receiver} (hm : r.measured = some m) (h : m ≠ g) :
    probeOutcome r rc (some g) = .conflict := by
  simp [probeOutcome, hm, h]

/-- A result that a measured class does not contradict leaves the judgement to the attempt class. -/
theorem probeOutcome_agrees {g : Option Gas} {rc : Receiver}
    (h : ∀ x, g = some x → r.measured = none ∨ r.measured = some x) : probeOutcome r rc g =
      match r.attemptClass g with
      | none => .undetermined
      | some g => match rc.assigned with
        | none => .assign g
        | some a => if a = g then .carryOn g else .conflict := by
  have hany : (g.any fun g => r.measured.any fun m => m != g) = false := by
    cases hg : g with
    | none => rfl
    | some x => rcases h x hg with hm | hm <;> simp [hm]
  rw [probeOutcome, hany]
  simp only [Bool.false_eq_true, if_false] <;> rfl

/-- A receiver of another class than the attempt's is a conflict, whatever the result. -/
theorem probeOutcome_conflict {g : Option Gas} {rc : Receiver} {a c : Gas} (ha : rc.assigned = some a)
    (hc : r.attemptClass g = some c) (h : a ≠ c) : probeOutcome r rc g = .conflict := by
  unfold probeOutcome
  split
  · rfl
  · simp [hc, ha, h]

/-! ### The end of EVACUATING by T_evac (R38, R39) -/

/-- A station as RISE_TEST takes it (R28, R39). -/
def Station.riseTest (ref : Option Int) (rise : Nat) (deadline : Time) (x : Station) : Station :=
  { x with state := .riseTest, riseRef := ref, copyRise := rise, deadline := some deadline }

theorem State.enterRiseTest_eq (s : State) (n : StationNo) : s.enterRiseTest n = s.modStation n
    (Station.riseTest (s.channel (suctionChannel n)).reading (s.item iPRise) (after s.clock (s.item iTRise))) := by
  rw [State.enterRiseTest, State.enterTimed, State.modStation_modStation]
  rfl

theorem State.evacTimedOut_eq (hs : (s.station n).state = .evacuating) (hb : (s.station n).bound = some i) :
    s.evacTimedOut n = (s.modRecord i (Record.flag .evacTimeout)).modStation n
      (Station.riseTest (s.channel (suctionChannel n)).reading (s.item iPRise) (after s.clock (s.item iTRise))) := by
  rw [State.evacTimedOut, if_pos hs, hb]
  exact State.enterRiseTest_eq _ n

/-- The probe sets its own deadline aside, so that what it was does not matter. -/
theorem State.takeProbe_deadline (s : State) (n : StationNo) (pair : BitVec 2) (d : Option Time) :
    (s.modStation n fun x => { x with probeDeadline := d }).takeProbe n pair = s.takeProbe n pair := by
  have hst : (s.modStation n fun x => { x with probeDeadline := d }).station n = { s.station n with probeDeadline := d } := by
    rw [State.modStation_station, if_pos rfl]
  unfold State.takeProbe
  rw [hst, State.modStation_modStation]
  rfl

/-- The end of an attempt does not lead to EVACUATING. -/
theorem State.endAttempt_state (hs : (s.station n).state ≠ .evacuating) :
    ((s.endAttempt n i).station n).state ≠ .evacuating := by
  have await (t : State) : ((t.enterAwait n).station n).state ≠ .evacuating := by
    rw [State.enterAwait_eq, State.modStation_station, if_pos rfl, Station.awaiting]
    split <;> simp
  unfold State.endAttempt
  split
  · exact await _
  · exact await _
  · exact await _
  · rw [State.enterFaulted_eq, State.raise_station, State.modStation_station, if_pos rfl]
    simp [Station.faulted]
  · exact await _
  · exact await _
  · split
    · exact hs
    · exact await _

theorem State.weigh_state (hs : (s.station n).state ≠ .evacuating) (wf ofl : Int) (b : Bool) :
    ((s.weigh n wf ofl b).station n).state ≠ .evacuating := by
  unfold State.weigh
  split
  · exact hs
  · split
    · exact hs
    · refine State.endAttempt_state ?_
      rw [State.modStation_station, if_pos rfl]
      exact hs

theorem State.enterAbortWeighing_state (s : State) (n : StationNo) (c : EndCause) :
    ((s.enterAbortWeighing n c).station n).state ≠ .evacuating := by
  have hs : ((s.modStation n (Station.abortWeighing c (after s.clock (s.item iTSettle)))).station n).state = .abortWeighing := by
    rw [State.modStation_station, if_pos rfl]; rfl
  rw [State.enterAbortWeighing_eq, State.judgeRings, hs]
  split
  · exact State.weigh_state (by rw [hs]; simp) _ _ _
  · rw [hs]; simp

/-- Where a probe leaves its station in EVACUATING, the station holds its appliance still. -/
theorem State.settleProbe_bound {t : State} {o : ProbeOutcome} (hb : (t.station n).bound = some i)
    (hs : ((t.settleProbe n i o).station n).state = .evacuating) : ((t.settleProbe n i o).station n).bound = some i := by
  cases o with
  | conflict => exact absurd hs (State.enterAbortWeighing_state _ n _)
  | undetermined => exact absurd hs (State.enterAbortWeighing_state _ n _)
  | assign g => rw [State.settleProbe, State.modStation_station, if_pos rfl]; exact hb
  | carryOn g => exact hb

theorem State.afterProbe_bound (hb : (s.station n).bound = some i) : ((s.afterProbe n i r pair).station n).bound = some i := by
  rw [State.afterProbe, State.modStation_station, if_pos rfl, State.probeRecord_station]
  exact hb

theorem State.evacExpired_untaken (hs : (s.station n).state = .evacuating) (hd : (s.station n).deadline = some s.clock)
    (hp : (s.station n).probeTaken = false) : s.evacExpired n pair = ((s.analyserSeen n pair).takeProbe n pair).evacTimedOut n := by
  rw [State.evacExpired, if_pos (State.expires_of hs hd), hp]
  rfl

/-- T_evac with a probe still to be taken: the probe, and where it leaves the station in EVACUATING the timeout (R35, R38). -/
theorem State.evacExpired_probe (hs : (s.station n).state = .evacuating) (hd : (s.station n).deadline = some s.clock)
    (hb : (s.station n).bound = some i) (hr : s.record i = some r) (hp : (s.station n).probeTaken = false) :
    s.evacExpired n pair =
      if (((s.analyserSeen n pair).takeProbe n pair).station n).state = .evacuating
        then (((s.analyserSeen n pair).takeProbe n pair).modRecord i (Record.flag .evacTimeout)).modStation n
          (Station.riseTest (s.channel (suctionChannel n)).reading (s.item iPRise) (after s.clock (s.item iTRise)))
        else (s.analyserSeen n pair).takeProbe n pair := by
  have hframe := (s.analyserSeen n pair).takeProbe_frame n pair
  have hbound := State.settleProbe_bound (o := probeOutcome r (s.station n).receiver (gasOfPair pair))
    (State.afterProbe_bound (pair := pair) (r := r) hb)
  rw [← State.takeProbe_eq hb hr] at hbound
  rw [State.evacExpired_untaken hs hd hp]
  split
  case isTrue he =>
    rw [State.evacTimedOut_eq he (hbound he)]
    unfold StationFrame at hframe
    rw [hframe]
    rfl
  case isFalse he => exact if_neg he

end Probe

/-- Settles O39: the state after the probe, its outcome by class and receiver, and the timeout on what the probe left. -/
theorem probeAndEvacuationTimeout : Obligations.ProbeAndEvacuationTimeout := by
  refine ⟨fun s n pair i r t cls hs hd hb hr hcls hblank hgas => ?_, fun s n pair i r hs hd hb hr => ⟨fun hp => ?_, fun hp => ?_⟩⟩
  · rw [← Record.attemptClass_eq] at hcls
    subst hcls
    have ht : t = s.afterProbe n i r pair := by
      cases hg : gasOfPair pair with
      | none => rw [hblank (gasOfPair_eq_none.mp hg), State.afterProbe_blank hg]; rfl
      | some g =>
        rw [hgas g (r.mismatches g) hg (r.mismatches_iff g), State.afterProbe_gas hg hr, Record.probed_eq]
        rfl
    rw [exec_probe hs hd hb hr, ← ht]
    refine ⟨fun hconf => ?_, fun hnone => ?_, fun c hc hagree => ⟨fun ha => ?_, fun ha => ?_⟩⟩
    · have ho : probeOutcome r (s.station n).receiver (gasOfPair pair) = .conflict := by
        rcases hconf with ⟨g, m, hg, hm, hne⟩ | ⟨a, c, ha, hc, hne⟩
        · rw [hg, probeOutcome_differs hm hne]
        · exact probeOutcome_conflict ha hc hne
      rw [ho]; rfl
    · have hg : gasOfPair pair = none := by
        cases hg : gasOfPair pair with
        | none => rfl
        | some g => simp [Record.attemptClass, hg] at hnone
      rw [probeOutcome_agrees (by simp [hg]), hnone]; rfl
    · rw [probeOutcome_agrees hagree, hc]
      simp only [ha, if_true]; rfl
    · rw [probeOutcome_agrees hagree, hc]
      simp only [ha]; rfl
  · refine congrArg _ ((if_pos (State.expires_of hs hd)).trans ((if_pos hp).trans ?_))
    rw [State.evacTimedOut_eq hs hb, State.modRecord_eq hr]
    simp only [Record.flag, Record.flagIf, Flags.setIf, Bool.or_true]
    rfl
  · refine ⟨(s.analyserSeen n pair).takeProbe n pair, ?_, congrArg _ (State.evacExpired_probe hs hd hb hr hp)⟩
    have hst : (State.station { s with stations := s.stations.set n { s.station n with probeDeadline := some s.clock } } n)
        = { s.station n with probeDeadline := some s.clock } := by
      exact (s.modStation_station n n fun x => { x with probeDeadline := some s.clock }).trans (if_pos rfl)
    refine congrArg _ ((if_pos ⟨by rw [hst]; exact hs, State.due_of (by rw [hst])⟩).trans ?_)
    exact (s.analyserSeen n pair).takeProbe_deadline n pair (some s.clock)

/-! ### CLEAR LINE (R24, R54, R175, R176) -/

theorem State.recordCount_reset {s : State} (h : s.table = tableReset) : s.recordCount = 0 := by
  have hrec (j : Slot) : s.record j = none := by simp [State.record, h, tableReset]
  simp [State.recordCount, hrec]

/-- Settles O47: the line state, then the block preconditions, then the cleared state field by field. -/
theorem clearLine : Obligations.ClearLine := by
  intro s tag ready hrx hready
  have hready : ready ↔ s.clearable = true := by rw [hready, State.clearable_iff, and_comm]
  refine ⟨fun hl => next_request hrx ?_, fun hl => ⟨fun hn => next_request hrx ?_, fun hr => ⟨s.clearLine, next_request hrx ?_, ?_,
    fun n => ?_⟩⟩⟩
  · exact if_neg (fun h => by rcases hl with hl | hl <;> rcases h with h | h <;> cases hl.symm.trans h)
  · exact (if_pos hl).trans (if_neg (mt hready.mpr hn))
  · exact (if_pos hl).trans (if_pos (hready.mp hr))
  · have hcount := State.recordCount_reset (s := { s with
      table := tableReset
      stations := s.stations.map Station.clear
      foam := { s.foam with baseline := none, debt := 0 }
      line := { s.line with state := .initial } }) rfl
    unfold State.clearLine State.judgeNearlyFull State.nearlyFull
    rw [hcount]
    rfl
  · exact s.clearLine_station n

end Sys2Proof.Machine
end

section
/-! The requests of the Appliance Table that change it (`Obligations.AdmitAppliance`, `Obligations.WithdrawAndRelease`,
`Obligations.TakeClosed`): the record count as the number of occupied slots, and each move written out. -/

namespace Sys2Proof.Machine

/-! ### The record count (R1, R21) -/

section Count

variable {s t : State} {i : Slot}

/-- The occupied slots. -/
def State.occupied (s : State) : Finset Slot := Finset.univ.filter fun i => (s.record i).isSome

@[simp] theorem State.mem_occupied : i ∈ s.occupied ↔ (s.record i).isSome = true := by simp [State.occupied]

theorem State.recordCount_eq (s : State) : s.recordCount = s.occupied.card := by
  show _ = (allSlots.filter fun i => decide ((s.record i).isSome = true)).length
  simp only [Bool.decide_eq_true]
  rfl

theorem State.recordCount_refiled {q : Record} (hr : s.record i = none) (h : s.Refiled t i (some q)) :
    t.recordCount = s.recordCount + 1 := by
  have hset : t.occupied = insert i s.occupied := by
    ext j
    rw [State.mem_occupied, h j, Finset.mem_insert, State.mem_occupied]
    by_cases hij : i = j
    · simp [hij]
    · simp [hij, Ne.symm hij]
  rw [State.recordCount_eq, State.recordCount_eq, hset, Finset.card_insert_of_notMem (by simp [hr])]

/-- The record count after some occupied slots were emptied. -/
theorem State.recordCount_emptied {l : List Slot} (hn : l.Nodup) (hl : ∀ i ∈ l, s.record i ≠ none)
    (h : ∀ j, t.record j = if j ∈ l then none else s.record j) : t.recordCount = s.recordCount - l.length := by
  have hset : t.occupied = s.occupied \ l.toFinset := by
    ext j
    rw [State.mem_occupied, h j, Finset.mem_sdiff, State.mem_occupied, List.mem_toFinset]
    by_cases hj : j ∈ l <;> simp [hj]
  have hsub : l.toFinset ⊆ s.occupied := fun j hj => by
    simpa [Option.isSome_iff_ne_none] using hl j (List.mem_toFinset.mp hj)
  rw [State.recordCount_eq, State.recordCount_eq, hset, Finset.card_sdiff_of_subset hsub, List.toFinset_card_of_nodup hn]

end Count

/-! ### ADMIT APPLIANCE (R6 to R8) -/

section Admit

variable {s : State} {tag : Byte} {ident : Word} {declared : Byte} {charge : Word} {foamClass foamAgent : Byte} {d : Declared}
  {fc : Fin 7} {fa : FoamAgent} {i : Slot} {r : Record}

theorem State.lowestEmpty_eq (hi : s.record i = none) (hlow : ∀ j, j < i → s.record j ≠ none) : s.lowestEmpty = some i := by
  cases h : s.lowestEmpty with
  | none => simpa [hi] using List.find?_eq_none.mp h i (by simp [allSlots])
  | some j =>
    have hj := State.lowestEmpty_some h
    obtain ⟨-, as, bs, hsplit, has⟩ := List.find?_eq_some_iff_append.mp h
    have hord : (as ++ j :: bs).Pairwise (· < ·) := hsplit ▸ List.pairwise_lt_finRange 48
    have hmem : i ∈ as ++ j :: bs := hsplit ▸ (by simp [allSlots])
    rcases List.mem_append.mp hmem with hia | hib
    · simpa [hi] using has i hia
    · rcases List.mem_cons.mp hib with rfl | hib
      · rfl
      · obtain ⟨-, htail, -⟩ := List.pairwise_append.mp hord
        exact absurd hj (hlow j (List.rel_of_pairwise_cons htail hib))

theorem State.lowestEmpty_none (h : ∀ j, s.record j ≠ none) : s.lowestEmpty = none :=
  List.find?_eq_none.mpr fun j _ => by simpa using h j

theorem State.enrol_eq (hi : s.record i = none) (r : Record) : s.enrol i r = { s with
    table := { s.table with slots := s.table.slots.set i (some r), seqCtr := s.table.seqCtr + 1 }
    arb := s.arb.report s.clock srcNearlyFull (decide (44 ≤ s.recordCount + 1)) none
      (some (.number ((s.recordCount + 1 : Nat) : Int))) } := by
  have hcount : State.recordCount { s with table := { s.table.put i (some r) with seqCtr := s.table.seqCtr + 1 } }
      = s.recordCount + 1 := State.recordCount_refiled hi (State.put_refiled rfl)
  rw [State.enrol, State.judgeNearlyFull, State.nearlyFull, hcount]
  rfl

/-- E as the Foam Table gives it (R8). -/
theorem State.expectedFoam_eq {e : Nat} (h0 : fa = .noAgent ∨ fc = 0 → e = 0)
    (hk : ∀ k : Fin 6, fa ≠ .noAgent → fc.val = k.val + 1 → e = s.item (iFoam k)) : s.expectedFoam fc fa = e := by
  unfold State.expectedFoam
  by_cases ha : fa = .noAgent
  · rw [if_pos ha, h0 (.inl ha)]
  · rw [if_neg ha]
    by_cases hc : fc.val = 0
    · rw [dif_pos hc, h0 (.inr (Fin.ext hc))]
    · rw [dif_neg hc]
      exact (hk ⟨fc.val - 1, by omega⟩ ha (by simp only; omega)).symm

theorem declaredFlammable_eq {fl : Bool} (h : fl = true ↔ d = some .hydro ∨ d = none ∨ fa = .hydro ∨ fa = .unknown) :
    declaredFlammable d fa = fl := by
  rw [Bool.eq_iff_iff, h]
  simp [declaredFlammable, or_assoc]

section Legal

variable (h0 : ident ≠ 0) (hd : declaredOf declared = some d) (hc : foamClassOf foamClass = some fc)
  (ha : foamAgentOf foamAgent = some fa)
include h0 hd hc ha

theorem ansAdmit_duplicate (h : (s.findIdent ident).isSome = true) :
    ansAdmit ident declared charge foamClass foamAgent s = (s, bare .duplicateIdent) := by
  rw [ansAdmit, if_neg h0, hd, hc, ha]
  exact if_pos h

theorem ansAdmit_full (h : s.findIdent ident = none) (hl : s.lowestEmpty = none) :
    ansAdmit ident declared charge foamClass foamAgent s = (s, bare .tableFull) := by
  rw [ansAdmit, if_neg h0, hd, hc, ha]
  simp only [h, hl, Option.isSome_none, Bool.false_eq_true, if_false]

theorem ansAdmit_admits (h : s.findIdent ident = none) (hl : s.lowestEmpty = some i)
    (hr : r = s.newRecord i ident d charge fc fa) : ansAdmit ident declared charge foamClass foamAgent s =
      (s.enrol i r, doneClamped (decide (20000 < charge.toNat))
        (char1 i.val ++ word4 r.seq ++ num4 r.expected ++ markByte r.flammable)) := by
  rw [ansAdmit, if_neg h0, hd, hc, ha]
  simp only [h, hl, hr, Option.isSome_none, Bool.false_eq_true, if_false]

end Legal

theorem exec_admit_badField (hrx : s.link.rx ≠ .replying)
    (h : ident = 0 ∨ declaredOf declared = none ∨ foamClassOf foamClass = none ∨ foamAgentOf foamAgent = none) :
    exec (.admitAppliance tag ident declared charge foamClass foamAgent) s = .next (s.replied 1 tag (bare .badField)) := by
  refine next_request hrx ?_
  unfold ansAdmit
  split
  · rfl
  case isFalse h0 =>
  split
  case h_1 hd hc ha =>
    rw [or_iff_right h0, hd, hc, ha] at h
    simp at h
  case h_2 => rfl

end Admit

/-- Settles O23: by the first check that fails, and the record admitted where none does. -/
theorem admitAppliance : Obligations.AdmitAppliance := by
  intro s tag ident declared charge foamClass foamAgent hrx
  refine ⟨exec_admit_badField hrx, fun d fc fa h0 hd hc ha => ⟨fun ⟨j, q, hq, hid⟩ => ?_, fun hfull => ?_,
    fun i e fl hnew hi hlow he0 hek hfl => ?_⟩⟩ <;> refine next_request hrx ?_
  · have hsome : (s.asked.findIdent ident).isSome = true := by
      by_contra hn
      exact State.findIdent_eq_none (s := s) (Option.not_isSome_iff_eq_none.mp hn) hq hid
    exact ansAdmit_duplicate h0 hd hc ha hsome
  · have hnone : s.asked.findIdent ident = none := State.findIdent_none fun j q hq => by
      obtain ⟨q', hq', hid⟩ := hfull j
      exact Option.mem_unique hq hq' ▸ hid
    have hlow : s.asked.lowestEmpty = none := State.lowestEmpty_none fun j => by
      obtain ⟨q, hq, -⟩ := hfull j
      exact Option.ne_none_iff_exists'.mpr ⟨q, hq⟩
    exact ansAdmit_full h0 hd hc ha hnone hlow
  · have hnone : s.asked.findIdent ident = none := State.findIdent_none hnew
    have hempty : s.asked.lowestEmpty = some i := State.lowestEmpty_eq hi hlow
    have hi' : s.asked.record i = none := hi
    rw [ansAdmit_admits h0 hd hc ha hnone hempty rfl, State.enrol_eq hi', State.newRecord, State.expectedFoam_eq (s := s.asked) he0 hek, declaredFlammable_eq hfl]
    rfl

/-! ### WITHDRAW (R19, R116) -/

section Link

variable (s : State) (l : Link)

theorem State.addTotal_link (i : TotalNo) (n : Nat) :
    State.addTotal { s with link := l } i n = { s.addTotal i n with link := l } := by
  unfold State.addTotal
  simp only
  split <;> rfl

theorem State.addClose_link (r : Record) : State.addClose { s with link := l } r = { s.addClose r with link := l } := by
  unfold State.addClose
  simp only [State.addTotal_link]

end Link

section Withdraw

variable {s : State} {tag : Byte} {ident : Word} {i : Slot} {r : Record}

theorem State.withdrawSlot_frame (s : State) (i : Slot) : (s.withdrawSlot i).link = s.link := by
  have hclose := (s.modRecord i fun r => { r with foamVerdict := some .notShredded }).closeSlot_frame i
  unfold CloseFrame at hclose
  unfold State.withdrawSlot
  simp only
  split
  · rw [State.judgePermit_frame, hclose]
    rfl
  · rw [hclose]
    rfl

/-- The table of a withdrawn appliance before Totals has counted it (R19). -/
def State.withdrawn (s : State) (i : Slot) (q : Record) : State := { s with table := { s.table with
  slots := s.table.slots.set i (some q)
  shredQueue := s.table.shredQueue.filter (· ≠ i)
  openSet := s.table.openSet.filter (· ≠ i)
  closedList := s.table.closedList ++ [i] } }

theorem Slot.filter_bne (l : List Slot) (i : Slot) : l.filter (· != i) = l.filter (· ≠ i) :=
  List.filter_congr fun j _ => by by_cases h : j = i <;> simp [h]

/-- A slot closed: its record in CLOSED, its place in the collections, its additions and its notice (R18 to R21, R116). -/
theorem State.closeSlot_eq {q : Record} (hr : s.record i = some r) (hq : q = r.close s.clock) :
    s.closeSlot i = ((s.withdrawn i q).addClose q).raise srcClosed (some i.val) (some (.ident r.ident)) := by
  subst hq
  rw [State.withdrawn, ← Slot.filter_bne, ← Slot.filter_bne, State.closeSlot, hr]
  rfl

theorem State.closeSlot_link (s : State) (l : Link) (i : Slot) :
    State.closeSlot { s with link := l } i = { s.closeSlot i with link := l } := by
  cases hr : s.record i with
  | none =>
    have hr' : State.record { s with link := l } i = none := hr
    simp only [State.closeSlot, hr, hr']
  | some r =>
    have hw : State.withdrawn { s with link := l } i (r.close s.clock)
        = { s.withdrawn i (r.close s.clock) with link := l } := rfl
    rw [State.closeSlot_eq hr rfl, State.closeSlot_eq (s := { s with link := l }) hr rfl]
    simp only
    rw [hw, State.addClose_link]
    generalize (s.withdrawn i (r.close s.clock)).addClose (r.close s.clock) = t
    rfl

theorem State.withdrawSlot_link (s : State) (l : Link) (i : Slot) :
    State.withdrawSlot { s with link := l } i = { s.withdrawSlot i with link := l } := by
  have hclose := State.closeSlot_link (s.modRecord i fun r => { r with foamVerdict := some .notShredded }) l i
  have hjudge := State.judgePermit_link ((s.modRecord i fun r => { r with foamVerdict := some .notShredded }).closeSlot i) l
  unfold State.withdrawSlot
  simp only
  split
  · rw [← hjudge, ← hclose]
    rfl
  · rw [← hclose]
    rfl

theorem State.withdrawn_modRecord (s : State) (i : Slot) (f : Record → Record) (q : Record) :
    (s.modRecord i f).withdrawn i q = s.withdrawn i q := by
  simp [State.withdrawn, State.modRecord, Table.mod, Table.put]

theorem State.withdrawSlot_eq (hr : s.record i = some r) {q : Record} {t : State}
    (hq : q = { r with phase := .closed, ticks := none, foamVerdict := some .notShredded, closeTime := some s.clock })
    (ht : t = (s.withdrawn i q).addClose q) : s.withdrawSlot i =
      if s.table.shredQueue.head? = some i then
        State.judgePermit { t with arb := t.arb.raise s.clock srcClosed (some i.val) (some (.ident r.ident)) }
      else { t with arb := t.arb.raise s.clock srcClosed (some i.val) (some (.ident r.ident)) } := by
  have hm : (s.modRecord i fun r => { r with foamVerdict := some .notShredded }).record i
      = some { r with foamVerdict := some .notShredded } := by simp [hr]
  have hclock : t.clock = s.clock := by
    rw [ht, State.addClose_frame (s.withdrawn i q) q]
    rfl
  unfold State.withdrawSlot
  rw [State.closeSlot_eq hm (q := q) hq, State.withdrawn_modRecord, ← ht, State.raise, hclock]

theorem ansWithdraw_found (h0 : ident ≠ 0) (hid : s.findIdent ident = some i) (hr : s.record i = some r) :
    ansWithdraw ident s = if r.phase = .queued ∨ r.phase = .extracted ∨ r.phase = .shredWait then
      (s.withdrawSlot i, bare .done) else (s, bare .wrongPhase) := by
  rw [ansWithdraw, if_neg h0, hid]
  simp only [hr, Option.map_some]
  cases r.phase <;> rfl

theorem exec_withdraw_badField (hrx : s.link.rx ≠ .replying) (h0 : ident = 0) :
    exec (.withdraw tag ident) s = .next (s.replied 4 tag (bare .badField)) :=
  next_request hrx (if_pos h0)

theorem exec_withdraw_absent (hrx : s.link.rx ≠ .replying) (h0 : ident ≠ 0) (h : ∀ j, ∀ q ∈ s.record j, q.ident ≠ ident) :
    exec (.withdraw tag ident) s = .next (s.replied 4 tag (bare .noSuchAppliance)) := by
  have hid : s.asked.findIdent ident = none := State.findIdent_none h
  refine next_request hrx ?_
  rw [ansWithdraw, if_neg h0, hid]

/-! ### RELEASE TO SHRED (R12, R72, R73) -/

theorem State.judgeIdle_link (s : State) (l : Link) : State.judgeIdle { s with link := l } = { s.judgeIdle with link := l } := by
  unfold State.judgeIdle
  split
  · exact (s.feederUntimed .waitPermit).judgePermit_link l
  · rfl

theorem State.release_eq (hr : s.record i = some r) : s.release i = { s with table := { s.table with
    slots := s.table.slots.set i (some { r with phase := .shredWait, releaseOrder := some s.table.relCtr })
    relCtr := s.table.relCtr + 1
    shredQueue := s.table.shredQueue ++ [i] } } := by
  have hs : s.table.slots[i] = some r := hr
  simp only [State.release, Table.mod, Table.put, hs, Option.map_some]

theorem ansRelease_found (h0 : ident ≠ 0) (hid : s.findIdent ident = some i) (hr : s.record i = some r) :
    ansRelease ident s = if r.phase = .extracted then
        ((s.release i).judgeIdle, doneWith (word4 s.table.relCtr ++ char1 (s.release i).table.shredQueue.length))
      else (s, bare .wrongPhase) := by
  rw [ansRelease, if_neg h0, hid]
  simp only [hr, Option.map_some, Option.some.injEq]

theorem exec_release_badField (hrx : s.link.rx ≠ .replying) (h0 : ident = 0) :
    exec (.releaseToShred tag ident) s = .next (s.replied 5 tag (bare .badField)) :=
  next_request hrx (if_pos h0)

theorem exec_release_absent (hrx : s.link.rx ≠ .replying) (h0 : ident ≠ 0) (h : ∀ j, ∀ q ∈ s.record j, q.ident ≠ ident) :
    exec (.releaseToShred tag ident) s = .next (s.replied 5 tag (bare .noSuchAppliance)) := by
  have hid : s.asked.findIdent ident = none := State.findIdent_none h
  refine next_request hrx ?_
  rw [ansRelease, if_neg h0, hid]

/-- A RELEASE TO SHRED taken: the Feeder's judgement follows the entry into the queue. -/
theorem exec_release_taken (hrx : s.link.rx ≠ .replying) (h0 : ident ≠ 0) (hid : s.findIdent ident = some i)
    (hr : s.record i = some r) (hp : r.phase = .extracted) : exec (.releaseToShred tag ident) s =
      .next ((s.release i).judgeIdle.replied 5 tag
        (doneWith (word4 s.table.relCtr ++ char1 (s.release i).table.shredQueue.length))) := by
  have hid' : s.asked.findIdent ident = some i := hid
  have hr' : s.asked.record i = some r := hr
  refine next_request hrx ?_ (by rw [State.judgeIdle_frame]; rfl)
  rw [ansRelease_found h0 hid' hr', if_pos hp, ← State.judgeIdle_link]
  rfl

end Withdraw

/-- Settles O28: by the record of the Ident and its phase. -/
theorem withdrawAndRelease : Obligations.WithdrawAndRelease := by
  refine ⟨fun s tag ident hrx => ⟨exec_withdraw_badField hrx, exec_withdraw_absent hrx, fun i r h0 hr hid hu => ?_⟩,
    fun s tag ident hrx => ⟨exec_release_badField hrx, exec_release_absent hrx, fun i r h0 hr hid hu => ?_⟩⟩
  · subst hid
    have hfind : s.asked.findIdent r.ident = some i := State.findIdent_of_unique (s := s) hr rfl hu
    have hr' : s.asked.record i = some r := hr
    have hans := ansWithdraw_found h0 hfind hr'
    refine ⟨fun ⟨hq, he, hw⟩ => ?_, fun hp => ?_⟩
    · rw [if_neg (by simp [hq, he, hw])] at hans
      exact next_request hrx hans
    · rw [if_pos hp, State.withdrawSlot_link] at hans
      have htaken := next_request (k := 4) (g := tag) hrx hans (s.withdrawSlot_frame i)
      rw [State.withdrawSlot_eq hr rfl rfl] at htaken
      refine ⟨_, (s.withdrawn i _).addClose _, rfl, rfl, fun hh => ?_, fun hh => ?_⟩
      · rw [if_neg hh] at htaken
        exact htaken
      · rw [if_pos hh] at htaken
        exact htaken
  · have hfind := State.findIdent_of_unique hr hid hu
    refine ⟨fun hp => ?_, fun hp => ⟨_, _, rfl, rfl, ?_⟩⟩
    · have hfind' : s.asked.findIdent ident = some i := hfind
      have hr' : s.asked.record i = some r := hr
      exact next_request hrx ((ansRelease_found h0 hfind' hr').trans (if_neg hp))
    · have htaken := exec_release_taken (tag := tag) hrx h0 hfind hr hp
      have hlen : (s.table.shredQueue ++ [i]).length = s.table.shredQueue.length + 1 := by simp
      rw [State.release_eq hr, hlen] at htaken
      refine ⟨fun hf => ?_, fun hf => ?_⟩
      · rw [State.judgeIdle, if_neg (fun h => hf h.1)] at htaken
        exact htaken
      · rw [State.judgeIdle, if_pos ⟨hf, by simp⟩] at htaken
        exact htaken

/-! ### TAKE CLOSED (R111, R112) -/

section Take

variable {s : State} {tag : Byte}

/-- A take written out but for the slots it empties (R21, R111). -/
theorem State.takeClosed_eq (hin : ∀ i ∈ s.table.closedList, s.record i ≠ none) (hn : s.table.closedList.Nodup) :
    s.takeClosed tag = { s with
      table := { s.table with
        slots := (s.takeClosed tag).table.slots
        closedList := s.table.closedList.drop 4
        saved := some (tag, (s.table.closedList.take 4).filterMap s.record) }
      arb := s.arb.report s.clock srcNearlyFull
        (decide (44 ≤ s.recordCount - min 4 s.table.closedList.length)) none
        (some (.number ((s.recordCount - min 4 s.table.closedList.length : Nat) : Int))) } := by
  have hcount : (s.takeClosed tag).recordCount = s.recordCount - min 4 s.table.closedList.length := by
    have h := State.recordCount_emptied (hn.sublist (List.take_sublist 4 _)) (fun i hi => hin i (List.mem_of_mem_take hi))
      (s.takeClosed_record tag)
    rwa [List.length_take] at h
  have hframe : s.takeClosed tag = { s with
      table := (s.takeClosed tag).table
      arb := s.arb.report s.clock srcNearlyFull (decide (44 ≤ (s.takeClosed tag).recordCount)) none
        (some (.number ((s.takeClosed tag).recordCount : Int))) } := rfl
  have htable := s.takeClosed_table tag
  rw [hcount] at hframe
  exact hframe.trans (by rw [htable]; rfl)

theorem exec_take_again {rs : List Record} (hrx : s.link.rx ≠ .replying) (hs : s.table.saved = some (tag, rs)) :
    exec (.takeClosed tag) s = .next (s.replied 6 tag (doneWith (closedContent rs s.table.closedList.length))) := by
  have hagain : s.asked.table.isRepeat tag = true := by simp [Table.isRepeat, hs]
  refine next_request hrx ?_
  rw [ansTakeClosed, if_pos hagain]
  simp only [hs]
  rfl

theorem exec_take_new (hrx : s.link.rx ≠ .replying) (hs : ∀ p ∈ s.table.saved, p.1 ≠ tag) : exec (.takeClosed tag) s =
    .next ((s.takeClosed tag).replied 6 tag (doneWith (closedContent s.closedHead (s.table.closedList.length - 4)))) := by
  have hagain : s.asked.table.isRepeat tag = false := by
    simp only [Table.isRepeat, Option.any_eq_false, beq_eq_false_iff_ne]
    exact hs
  refine next_request hrx ?_
  rw [ansTakeClosed, if_neg (by simp [hagain]), ← List.length_drop]
  rfl

end Take

/-- Settles O29: by the Tag of the saved take. -/
theorem takeClosed : Obligations.TakeClosed := by
  intro s tag hrx
  refine ⟨fun rs hs => exec_take_again hrx hs, fun hs hin hn => ⟨s.takeClosed tag, ?_, s.takeClosed_record tag,
    State.takeClosed_eq hin hn⟩⟩
  have hlen : s.closedHead.length = min 4 s.table.closedList.length := by
    have hall : ∀ i ∈ s.table.closedList.take 4, (s.record i).isSome := fun i hi =>
      Option.isSome_iff_ne_none.mpr (hin i (List.mem_of_mem_take hi))
    rw [State.closedHead, List.length_filterMap_eq_countP, List.countP_eq_length.mpr hall, List.length_take]
  rw [exec_take_new hrx hs, closedContent, hlen]
  rfl

end Sys2Proof.Machine
end

section
/-! The requests that read alone (`Obligations.QueriesAndReads`, `Obligations.ListTable`): the lengths of their contents, and
the packing of LIST TABLE. -/

namespace Sys2Proof.Machine

/-! ### The lengths of the fields (R188) -/

@[simp] theorem char1_length (x : Nat) : (char1 x).length = 1 := by simp [char1]
@[simp] theorem markByte_length (b : Bool) : (markByte b).length = 1 := by simp [markByte]
@[simp] theorem num2_length (x : Nat) : (num2 x).length = 2 := by simp [num2]
@[simp] theorem word4_length (w : Word) : (word4 w).length = 4 := by simp [word4]
@[simp] theorem num4_length (x : Nat) : (num4 x).length = 4 := by simp [num4]
@[simp] theorem int4_length (x : Int) : (int4 x).length = 4 := by simp [int4]
@[simp] theorem optWord_length (w : Option Word) : (optWord w).length = 5 := by simp [optWord]
@[simp] theorem optInt_length (x : Option Int) : (optInt x).length = 5 := by simp [optInt]
@[simp] theorem opt1_length (x : Option Nat) : (opt1 x).length = 2 := by simp [opt1]

/-- Fields of one width, one after another. -/
theorem length_flatMap_width {α : Type} {f : α → List Byte} {k : Nat} (l : List α) (h : ∀ x ∈ l, (f x).length = k) :
    (l.flatMap f).length = k * l.length := by
  rw [List.length_flatMap, List.map_congr_left h, List.map_const', List.sum_replicate, smul_eq_mul, Nat.mul_comm]

theorem Record.closingChars_length (r : Record) : r.closingChars.length = 50 := by
  unfold Record.closingChars
  simp only [List.length_append]
  simp only [char1_length, num2_length, word4_length, num4_length]

theorem Record.chars_length (r : Record) : r.chars.length = 53 := by simp [Record.chars, r.closingChars_length]

theorem ringChars_length (ring : List Int) : (ringChars ring).length = 33 := by
  rw [ringChars, List.length_append, length_flatMap_width _ fun _ _ => int4_length _]
  rfl

theorem Channel.content_length (c : Channel) (k : Nat) : (c.content k).length = 65 := by
  simp [Channel.content, ringChars_length]

theorem State.stationContent_length (s : State) (n : StationNo) : (s.stationContent n).length = 47 := by
  simp [State.stationContent]

theorem State.configContent_length (s : State) : s.configContent.length = 199 := by
  simp only [State.configContent, List.length_append, length_flatMap_width _ fun _ _ => num4_length _, List.length_map,
    char1_length, allSources, List.length_finRange]

theorem State.statusContent_length (s : State) : s.statusContent.length = 84 := by
  unfold State.statusContent
  simp only [List.length_append]
  rw [length_flatMap_width _ fun _ _ => char1_length _, Vector.length_toList]
  simp only [char1_length, markByte_length, word4_length, num4_length, int4_length, optWord_length, optInt_length]

/-! ### The queries (R22, R53, R134, R189, R190) -/

section Reads

variable {s : State} {tag selector channel : Byte} {key : Word} {i : Slot} {r : Record}

theorem slotOf_eq (h : key.toNat = i.val) : slotOf key = some i := by
  rw [slotOf, dif_pos (h ▸ i.isLt)]
  exact congrArg some (Fin.ext h)

theorem slotOf_none (h : 47 < key.toNat) : slotOf key = none := dif_neg (by omega)

theorem channelOf_eq {c : ChannelNo} (h : channel.toNat = c.val) : channelOf channel = some c := by
  rw [channelOf, dif_pos (h ▸ c.isLt)]
  exact congrArg some (Fin.ext h)

theorem channelOf_none (h : 15 < channel.toNat) : channelOf channel = none := dif_neg (by omega)

/-- QUERY APPLIANCE by Ident (R22). -/
theorem ansQuery_ident (h : key ≠ 0) : ansQuery 1 key s =
    (s, (((s.findIdent key).bind s.record).map fun r => doneWith r.chars).getD (bare .noSuchAppliance)) := by
  rw [ansQuery, if_pos rfl, if_neg h]
  cases (s.findIdent key).bind s.record <;> rfl

/-- QUERY APPLIANCE by slot (R22). -/
theorem ansQuery_slot (h : key.toNat = i.val) : ansQuery 2 key s =
    (s, ((s.record i).map fun r => doneWith r.chars).getD (bare .noSuchAppliance)) := by
  rw [ansQuery, if_neg (by decide), if_pos rfl, slotOf_eq h]
  simp only
  cases s.record i <;> rfl

theorem ansQuery_found (hr : s.record i = some r) (h : selector = 2 ∧ key.toNat = i.val ∨
    selector = 1 ∧ key ≠ 0 ∧ r.ident = key ∧ ∀ j, ∀ q ∈ s.record j, q.ident = key → j = i) :
    ansQuery selector key s = (s, doneWith r.chars) := by
  rcases h with ⟨rfl, hk⟩ | ⟨rfl, h0, hid, hu⟩
  · rw [ansQuery_slot hk, hr]
    rfl
  · rw [ansQuery_ident h0, State.findIdent_of_unique hr hid hu, Option.bind_some, hr]
    rfl

theorem ansQuery_absent (h : selector = 1 ∧ key ≠ 0 ∧ (∀ j, ∀ q ∈ s.record j, q.ident ≠ key)
    ∨ selector = 2 ∧ (∃ i : Slot, key.toNat = i.val ∧ s.record i = none)) :
    ansQuery selector key s = (s, bare .noSuchAppliance) := by
  rcases h with ⟨rfl, h0, hno⟩ | ⟨rfl, i, hk, hr⟩
  · rw [ansQuery_ident h0, State.findIdent_none hno]
    rfl
  · rw [ansQuery_slot hk, hr]
    rfl

theorem ansQuery_badField (h : selector ≠ 1 ∧ selector ≠ 2 ∨ selector = 1 ∧ key = 0 ∨ selector = 2 ∧ 47 < key.toNat) :
    ansQuery selector key s = (s, bare .badField) := by
  rcases h with ⟨h1, h2⟩ | ⟨rfl, h0⟩ | ⟨rfl, hk⟩
  · rw [ansQuery, if_neg h1, if_neg h2]
  · rw [ansQuery, if_pos rfl, if_pos h0]
  · rw [ansQuery, if_neg (by decide), if_pos rfl, slotOf_none hk]

theorem ansReadChannel_found {c : ChannelNo} (h : channel.toNat = c.val) :
    ansReadChannel channel s = (s, doneWith ((s.channel c).content c.val)) := by
  rw [ansReadChannel, channelOf_eq h]

theorem ansReadChannel_badField (h : 15 < channel.toNat) : ansReadChannel channel s = (s, bare .badField) := by
  rw [ansReadChannel, channelOf_none h]

/-- Of the link, READ STATUS shows the counters alone; its own frame is counted (R190, log 19). -/
theorem State.statusContent_asked (s : State) :
    s.asked.statusContent = State.statusContent { s with link := { s.link with good := min 65535 (s.link.good + 1) } } := by
  have hgood : s.link.accept.good = min 65535 (s.link.good + 1) := count16_eq _
  unfold State.statusContent State.asked
  simp only [hgood]
  rfl

end Reads

/-- Settles O24: each request by its answer, and its content by the lengths of its fields. -/
theorem queriesAndReads : Obligations.QueriesAndReads := by
  refine ⟨fun s tag selector key hrx => ⟨fun i r hr h => ⟨?_, r.chars_length⟩, fun h => ?_, fun h => ?_⟩,
    fun s tag hrx => ⟨⟨?_, s.configContent_length⟩, ⟨?_, s.statusContent_length⟩,
      fun station n hn hf => ⟨?_, s.stationContent_length n⟩, fun station hn => ?_, fun station n hn hf => ?_,
      fun channel c hc => ⟨?_, Channel.content_length _ _⟩, fun channel hc => ?_⟩⟩
  · exact next_request hrx (ansQuery_found (s := s.asked) hr h)
  · exact next_request hrx (ansQuery_absent (s := s.asked) h)
  · exact next_request hrx (ansQuery_badField (s := s.asked) h)
  · exact next_request hrx rfl
  · rw [← s.statusContent_asked]
    exact next_request hrx rfl
  · exact next_request hrx (atStation_fitted (s := s.asked) _ hn hf)
  · exact next_request hrx (atStation_refused (s := s.asked) _ (.inl ⟨hn, rfl⟩))
  · exact next_request hrx (atStation_refused (s := s.asked) _ (.inr ⟨n, hn, hf, rfl⟩))
  · exact next_request hrx (ansReadChannel_found (s := s.asked) hc)
  · exact next_request hrx (ansReadChannel_badField (s := s.asked) hc)

/-! ### The packing of LIST TABLE (R23, R188) -/

/-- A list of marks as a number, the first mark in its highest bit. -/
def packed (bs : List Bool) : Nat := bs.foldl (fun acc b => 2 * acc + if b then 1 else 0) 0

theorem packed_snoc (bs : List Bool) (b : Bool) : packed (bs ++ [b]) = 2 * packed bs + if b then 1 else 0 := by
  simp [packed]

theorem packed_testBit (bs : List Bool) : ∀ k < bs.length, (packed bs).testBit k = bs.getD (bs.length - 1 - k) false := by
  induction bs using List.reverseRecOn with
  | nil => simp
  | append_singleton bs b ih =>
    intro k hk
    rw [packed_snoc]
    cases k with
    | zero => cases b <;> simp [Nat.testBit_zero]
    | succ k =>
      have hlen : (bs ++ [b]).length - 1 - (k + 1) = bs.length - 1 - k := by simp; omega
      have hlt : k < bs.length := by simpa using hk
      have hhalf : (2 * packed bs + if b then 1 else 0) / 2 = packed bs := by cases b <;> simp; omega
      rw [Nat.testBit_succ, hhalf, ih k hlt, hlen, List.getD_append _ _ _ _ (by omega)]

/-- The marks of a character of LIST TABLE (R188). -/
theorem bits8_getLsbD {bs : List Bool} (h : bs.length = 8) {j : Nat} (hj : j < 8) :
    (bits8 bs).getLsbD (7 - j) = bs.getD j false := by
  have hbit := packed_testBit bs (7 - j) (by omega)
  have hj' : bs.length - 1 - (7 - j) = j := by omega
  rw [hj'] at hbit
  rw [← hbit, bits8, BitVec.getLsbD_ofNat, decide_eq_true (by omega), Bool.true_and]
  rfl

theorem phaseChars_length (l : List Nat) : (phaseChars l).length = (l.length + 1) / 2 := by
  induction l using phaseChars.induct with
  | case1 => rfl
  | case2 a => simp [phaseChars]
  | case3 a b rest ih =>
    simp only [phaseChars, List.length_append, char1_length, ih, List.length_cons]
    omega

/-- Each phase in its half of a character (R188). -/
theorem phaseChars_get (l : List Nat) (h : ∀ x ∈ l, x < 16) : ∀ k (hk : k < l.length), ∃ c, (phaseChars l)[k / 2]? = some c
    ∧ (c.toNat / (if k % 2 = 0 then 16 else 1)) % 16 = l[k] := by
  induction l using phaseChars.induct with
  | case1 => simp
  | case2 a =>
    intro k hk
    obtain rfl : k = 0 := by simpa using hk
    have ha := h a (by simp)
    refine ⟨_, rfl, ?_⟩
    simp only [BitVec.toNat_ofNat, List.getElem_cons_zero, Nat.zero_mod, if_true]
    omega
  | case3 a b rest ih =>
    have ha := h a (by simp)
    have hb := h b (by simp)
    intro k hk
    match k with
    | 0 =>
      refine ⟨_, rfl, ?_⟩
      simp only [BitVec.toNat_ofNat, List.getElem_cons_zero, Nat.zero_mod, if_true]
      omega
    | 1 =>
      refine ⟨_, rfl, ?_⟩
      simp only [BitVec.toNat_ofNat, List.getElem_cons_zero, List.getElem_cons_succ, Nat.reduceMod, one_ne_zero, if_false]
      omega
    | k + 2 =>
      obtain ⟨c, hc, hv⟩ := ih (fun x hx => h x (by simp [hx])) k (by simpa using hk)
      refine ⟨c, ?_, ?_⟩
      · rw [phaseChars, Nat.add_div_right k (by decide)]
        exact hc
      · rw [Nat.add_mod_right]
        exact hv

theorem Phase.code_lt (p : Phase) : p.code < 16 := by cases p <;> decide

section Listing

variable (s : State)

/-- The present records in ascending slot order (R23). -/
def State.present : List Record := allSlots.filterMap s.record

/-- The marks of the occupied slots (R188). -/
def State.occupiedChars : List Byte :=
  (List.range 6).map fun k => bits8 ((List.range 8).map fun j => ((s.table.slots[8 * k + j]?).join).isSome)

theorem State.listContent_eq : s.listContent = s.occupiedChars ++ s.present.flatMap (fun r => word4 r.ident)
    ++ phaseChars (s.present.map fun r => r.phase.code) := rfl

theorem State.occupiedChars_length : s.occupiedChars.length = 6 := rfl

theorem State.present_length : s.present.length = s.recordCount := by
  rw [State.present, List.length_filterMap_eq_countP, List.countP_eq_length_filter]
  rfl

theorem State.idents_length : (s.present.flatMap fun r => word4 r.ident).length = 4 * s.recordCount := by
  rw [length_flatMap_width _ fun _ _ => word4_length _, State.present_length]

theorem State.occupiedChars_get (i : Slot) : ∃ c, s.occupiedChars[i.val / 8]? = some c
    ∧ c.getLsbD (7 - i.val % 8) = (s.record i).isSome := by
  have hi := i.isLt
  have hslot : 8 * (i.val / 8) + i.val % 8 = i.val := Nat.div_add_mod _ _
  refine ⟨_, by rw [State.occupiedChars, List.getElem?_map, List.getElem?_range (by omega)]; rfl, ?_⟩
  rw [bits8_getLsbD (by simp) (Nat.mod_lt _ (by decide)), List.getD_eq_getElem?_getD, List.getElem?_map,
    List.getElem?_range (Nat.mod_lt _ (by decide))]
  simp only [Option.map_some, Option.getD_some, hslot]
  rw [Vector.getElem?_eq_getElem hi]
  rfl

variable {s}

/-- A present record stands behind those of the lower slots. -/
theorem State.present_split {i : Slot} {r : Record} (hr : s.record i = some r) : ∃ low high, s.present = low ++ r :: high
    ∧ low.length = ((allSlots.take i.val).filter fun j => (s.record j).isSome).length := by
  have hi : i.val < allSlots.length := by simp [allSlots]
  have hget : allSlots[i.val] = i := by simp [allSlots]
  refine ⟨(allSlots.take i.val).filterMap s.record, (allSlots.drop (i.val + 1)).filterMap s.record, ?_, ?_⟩
  · have hslots : allSlots = allSlots.take i.val ++ i :: allSlots.drop (i.val + 1) := by
      conv_lhs => rw [← List.take_append_drop i.val allSlots, List.drop_eq_getElem_cons hi, hget]
    rw [State.present]
    conv_lhs => rw [hslots]
    rw [List.filterMap_append, List.filterMap_cons_some hr]
  · rw [List.length_filterMap_eq_countP, List.countP_eq_length_filter]

theorem State.listContent_ident {low high : List Record} {r : Record} (h : s.present = low ++ r :: high) :
    (s.listContent.drop (6 + 4 * low.length)).take 4 = word4 r.ident := by
  have hpre : (s.occupiedChars ++ low.flatMap fun r => word4 r.ident).length = 6 + 4 * low.length := by
    rw [List.length_append, length_flatMap_width _ fun _ _ => word4_length _, State.occupiedChars_length]
  have hsplit : s.listContent = (s.occupiedChars ++ low.flatMap fun r => word4 r.ident) ++ (word4 r.ident
      ++ ((high.flatMap fun r => word4 r.ident) ++ phaseChars (s.present.map fun r => r.phase.code))) := by
    rw [State.listContent_eq]
    conv_lhs => enter [1, 2]; rw [h]
    simp only [List.flatMap_append, List.flatMap_cons, List.append_assoc]
  rw [hsplit, List.drop_left' hpre, List.take_left' (word4_length _)]

theorem State.listContent_phase {low high : List Record} {r : Record} (h : s.present = low ++ r :: high) :
    ∃ c, s.listContent[6 + 4 * s.recordCount + low.length / 2]? = some c
      ∧ (c.toNat / (if low.length % 2 = 0 then 16 else 1)) % 16 = r.phase.code := by
  have hpre : (s.occupiedChars ++ s.present.flatMap fun r => word4 r.ident).length = 6 + 4 * s.recordCount := by
    rw [List.length_append, s.idents_length, s.occupiedChars_length]
  obtain ⟨c, hc, hv⟩ := phaseChars_get (s.present.map fun r => r.phase.code)
    (fun x hx => by obtain ⟨q, -, rfl⟩ := List.mem_map.mp hx; exact q.phase.code_lt) low.length (by simp [h])
  refine ⟨c, ?_, ?_⟩
  · rw [State.listContent_eq, List.getElem?_append_right (by omega), hpre, Nat.add_sub_cancel_left]
    exact hc
  · rw [hv]
    simp [h]

end Listing

/-- Settles O27: a slot's mark in the first six characters; its Ident and its phase at its place among the records. -/
theorem listTable : Obligations.ListTable := by
  intro s tag hrx
  have hlen : s.listContent.length = 6 + 4 * s.recordCount + (s.recordCount + 1) / 2 := by
    rw [State.listContent_eq, List.length_append, List.length_append, s.occupiedChars_length, s.idents_length,
      phaseChars_length, List.length_map, s.present_length]
  refine ⟨s.listContent, next_request hrx rfl, List.length_filter_le _ _, hlen, fun i => ?_⟩
  obtain ⟨c, hc, hbit⟩ := s.occupiedChars_get i
  refine ⟨c, ?_, hbit, ?_⟩
  · have hi := i.isLt
    rw [State.listContent_eq, List.append_assoc, List.getElem?_append_left (by rw [s.occupiedChars_length]; omega)]
    exact hc
  · rintro r hr k rfl
    obtain ⟨low, high, hsplit, hlow⟩ := State.present_split hr
    rw [← hlow]
    exact ⟨State.listContent_ident hsplit, State.listContent_phase hsplit⟩

end Sys2Proof.Machine
end

section
/-! The state after reset has the laws of a safe run (`Obligations.ResetHasTheLaws`), block by block. -/

namespace Sys2Proof.Machine

theorem State.reset_station (n : StationNo) : State.reset.station n = stationReset := by
  simp [State.station, State.reset, State.fresh]

theorem State.reset_channel (c : ChannelNo) : State.reset.channel c = channelReset c := by
  simp [State.channel, State.reset, State.fresh]

theorem State.reset_item (i : Item) : State.reset.item i = (itemRow i).dflt * (itemRow i).scale := by
  simp [State.item, State.reset, State.fresh, settingsReset]

theorem State.reset_total (i : TotalNo) : State.reset.totals[i] = { value := 0, saturated := false } := by
  simp [State.reset, State.fresh, totalsReset]

/-- The queue is empty and no source is pending (R153, R164). -/
theorem State.reset_noticeLaw : State.reset.noticeLaw ∧ State.reset.postedLaw := by
  refine ⟨⟨Nat.zero_le _, Nat.zero_le _⟩, fun i hi => ?_⟩
  simp [State.reset, State.fresh, arbReset, sourceReset] at hi

/-- Every channel stands at 0, the low end of its limits, with an empty ring (R121). -/
theorem State.reset_channelLaw : State.reset.channelLaw := by
  have hspan : ∀ c : ChannelNo, 0 ≤ channelSpan c := by decide
  intro c
  rw [State.reset_channel]
  simp [channelReset, hspan c]

/-- Every default lies in its range, and the defaults keep the order of the limits (R84, R149, R189). -/
theorem State.reset_limitLaw : State.reset.limitLaw := by
  have hrange : ∀ i : Item, (itemRow i).lo ≤ (itemRow i).dflt ∧ (itemRow i).dflt ≤ (itemRow i).hi := by decide
  refine ⟨fun i => ?_, ?_⟩
  · obtain ⟨hlo, hhi⟩ := hrange i
    rw [State.reset_item]
    exact ⟨Nat.mul_le_mul_right _ hlo, Nat.mul_le_mul_right _ hhi, Nat.mul_mod_left _ _⟩
  · simp only [State.reset_item]
    decide

/-- Every total is 0 and its indicator clear (R113). -/
theorem State.reset_accountLaw : State.reset.accountLaw := by
  refine ⟨fun i => ?_, fun _ => ?_⟩ <;> simp only [State.reset_total] <;> simp

/-- The Feeder is IDLE and its gate de-energized (R70). -/
theorem State.reset_gateLaw : State.reset.gateLaw := nofun

/-- No appliance is inside (R17). -/
theorem State.reset_airLaw : State.reset.airLaw := nofun

/-- Every station is IDLE (R25, R145). -/
theorem State.reset_stopLaw : State.reset.stopLaw := by
  intro n
  rw [State.pierceOut, State.suctionOut, State.reset_station]
  exact ⟨fun _ => rfl, fun _ => ⟨rfl, rfl, rfl⟩⟩

theorem State.reset_consistent : State.reset.consistent := (State.consistent_iff _).mpr (State.agrees_fresh 1 false false)

/-- Settles O4, law by law. -/
theorem resetHasTheLaws : Obligations.ResetHasTheLaws := by
  obtain ⟨hnotice, hposted⟩ := State.reset_noticeLaw
  exact ⟨hnotice, hposted, State.reset_channelLaw, State.reset_limitLaw, State.reset_accountLaw, State.reset_gateLaw,
    State.reset_airLaw, State.reset_stopLaw, State.reset_consistent⟩

end Sys2Proof.Machine
end

section
/-! The attribution tick (`Obligations.TickAmounts`): what it hands to Totals and to the arbiter, and the windows it closes.
Totals and the arbiter depend on the state by its totals, its arbiter and its clock alone, so that the closings can be
followed on any state with the same books. -/

namespace Sys2Proof.Machine

/-! ### The books: totals, arbiter and clock (R114 to R117) -/

/-- The parts of a state that additions and notices read and change. -/
structure State.SameBooks (s t : State) : Prop where
  totals : s.totals = t.totals
  arb : s.arb = t.arb
  clock : s.clock = t.clock

section Books

variable {s t : State}

theorem State.SameBooks.raise (h : s.SameBooks t) (i : SourceNo) (x : Option Nat) (v : Option Value) :
    (s.raise i x v).SameBooks (t.raise i x v) := by
  refine ⟨h.totals, ?_, h.clock⟩
  rw [State.raise, State.raise, h.arb, h.clock]

theorem State.addTotal_eq (s : State) (i : TotalNo) (n : Nat) : s.addTotal i n = { s with
    totals := s.totals.set i (s.totals[i].add n)
    arb := if (s.totals[i].add n).saturated && !s.totals[i].saturated then
        s.arb.raise s.clock srcSaturated (some i.val) (some (.number n)) else s.arb } := by
  unfold State.addTotal
  simp only
  split <;> rfl

theorem State.SameBooks.addTotal (h : s.SameBooks t) (i : TotalNo) (n : Nat) : (s.addTotal i n).SameBooks (t.addTotal i n) := by
  rw [State.addTotal_eq, State.addTotal_eq]
  refine ⟨?_, ?_, h.clock⟩
  · simp only [h.totals]
  · simp only [h.totals, h.arb, h.clock]

theorem State.SameBooks.addClose (h : s.SameBooks t) (r : Record) : (s.addClose r).SameBooks (t.addClose r) :=
  (((h.addTotal _ _).addTotal _ _).addTotal _ _).addTotal _ _

/-- An addition changes its own total alone. -/
theorem State.addTotal_other (s : State) {i j : TotalNo} (n : Nat) (h : i ≠ j) : (s.addTotal i n).totals[j] = s.totals[j] := by
  have hv : i.val ≠ j.val := fun e => h (Fin.ext e)
  simp [State.addTotal_eq, hv]

theorem State.addTotal_same (s : State) (i : TotalNo) (n : Nat) : (s.addTotal i n).totals[i] = s.totals[i].add n := by
  simp [State.addTotal_eq]

/-- An addition that does not saturate is exact (R114). -/
theorem Total.add_value {t : Total} {n : Nat} (h : t.value + n ≤ 4294967295) : (t.add n).value = t.value + n := by
  have hmax : t.value + n ≤ Config.max32 := h
  rw [Total.add, if_pos hmax]

/-- The totals of the foam account (R102, R117). -/
def totFoamAccount : List TotalNo := [totCaptured, totAttributed, totPool, totDrained]

/-- A close counts masses and closings, and leaves the foam account (R115, R116). -/
theorem State.addClose_account (s : State) (r : Record) {j : TotalNo} (hj : j ∈ totFoamAccount) :
    (s.addClose r).totals[j] = s.totals[j] := by
  have hmass : ∀ c, ∀ j ∈ totFoamAccount, totRecovered c ≠ j := by
    intro c
    rcases c with _ | _ | _ | _ <;> decide
  have hoil : ∀ j ∈ totFoamAccount, totOil ≠ j := by decide
  have hverdict : ∀ v, ∀ j ∈ totFoamAccount, totVerdict v ≠ j := by
    intro v
    rcases v with _ | _ | _ | _ | _ | _ | _ <;> decide
  have hfoam : ∀ v, ∀ j ∈ totFoamAccount, totFoam v ≠ j := by
    intro v
    cases v <;> decide
  rw [State.addClose, State.addTotal_other _ _ (hfoam _ j hj), State.addTotal_other _ _ (hverdict _ j hj),
    State.addTotal_other _ _ (hoil j hj), State.addTotal_other _ _ (hmass _ j hj)]

end Books

/-! ### A change of several records -/

section Changes

variable {s : State} {i j : Slot} {r : Record} {l : List Slot}

theorem State.foldl_modRecord_record (f : Slot → Record → Record) (hn : l.Nodup) (s : State) (j : Slot) :
    (l.foldl (fun t i => t.modRecord i (f i)) s).record j = if j ∈ l then (s.record j).map (f j) else s.record j := by
  induction l generalizing s with
  | nil => simp
  | cons i l ih =>
    obtain ⟨hi, hn⟩ := List.nodup_cons.mp hn
    rw [List.foldl_cons, ih hn, State.modRecord_record]
    by_cases hij : i = j
    · subst hij; simp [hi]
    · simp [hij, Ne.symm hij]

theorem State.foldl_modRecord_eq (f : Slot → Record → Record) (l : List Slot) (s : State) :
    l.foldl (fun t i => t.modRecord i (f i)) s = { s with table := { s.table with
      slots := (l.foldl (fun t i => t.modRecord i (f i)) s).table.slots } } := by
  induction l generalizing s with
  | nil => rfl
  | cons i l ih => rw [List.foldl_cons, ih]; rfl

theorem State.modRecords_eq (s : State) (l : List Slot) (f : Record → Record) : s.modRecords l f =
    { s with table := { s.table with slots := (s.modRecords l f).table.slots } } :=
  State.foldl_modRecord_eq (fun _ => f) l s

theorem State.modRecords_record (hn : l.Nodup) (s : State) (f : Record → Record) (j : Slot) :
    (s.modRecords l f).record j = if j ∈ l then (s.record j).map f else s.record j :=
  State.foldl_modRecord_record (fun _ => f) hn s j

/-! ### Closing windows (R18, R103, R116) -/

/-- A close booked: its additions and its notice, for the record `T` gives (R21, R116). -/
def State.book (T : Slot → Option Record) (u : State) (i : Slot) : State :=
  match T i with
  | none => u
  | some r => (u.addClose r).raise srcClosed (some i.val) (some (.ident r.ident))

theorem State.book_some {T : Slot → Option Record} (u : State) (h : T i = some r) :
    u.book T i = (u.addClose r).raise srcClosed (some i.val) (some (.ident r.ident)) := by
  simp only [State.book, h]

theorem State.book_account (T : Slot → Option Record) (u : State) (i : Slot) {j : TotalNo} (hj : j ∈ totFoamAccount) :
    (u.book T i).totals[j] = u.totals[j] := by
  cases h : T i with
  | none => simp only [State.book, h]
  | some r =>
    rw [State.book_some u h, State.raise_totals, u.addClose_account r hj]

theorem State.books_account (T : Slot → Option Record) (l : List Slot) (u : State) {j : TotalNo} (hj : j ∈ totFoamAccount) :
    (l.foldl (State.book T) u).totals[j] = u.totals[j] := by
  induction l generalizing u with
  | nil => rfl
  | cons i l ih => rw [List.foldl_cons, ih, u.book_account T i hj]

theorem State.closeWindow_table (hr : s.record i = some r) : (s.closeWindow i).table.openSet = s.table.openSet.filter (· != i)
    ∧ (s.closeWindow i).table.closedList = s.table.closedList ++ [i]
    ∧ (s.closeWindow i).table.shredQueue = s.table.shredQueue.filter (· != i) := by
  have hr' : (s.modRecord i fun r => r.foamOutcome (s.item iGammaMin)).record i = some (r.foamOutcome (s.item iGammaMin)) := by
    simp [hr]
  rw [State.closeWindow, State.closeSlot_table hr']
  exact ⟨rfl, rfl, rfl⟩

/-- The close of a window is booked for the record it leaves. -/
theorem State.closeWindow_books {u : State} (T : Slot → Option Record) (hu : s.SameBooks u) (hr : s.record i = some r)
    (hT : T i = (s.closeWindow i).record i) : (s.closeWindow i).SameBooks (u.book T i) := by
  have hc : T i = some ((r.foamOutcome (s.item iGammaMin)).close s.clock) := by
    rw [hT, State.closeWindow_refiled hr i, if_pos rfl]
  have hr' : (s.modRecord i fun r => r.foamOutcome (s.item iGammaMin)).record i = some (r.foamOutcome (s.item iGammaMin)) := by
    simp [hr]
  have hb : ((s.modRecord i fun r => r.foamOutcome (s.item iGammaMin)).withdrawn i
      ((r.foamOutcome (s.item iGammaMin)).close s.clock)).SameBooks u := ⟨hu.totals, hu.arb, hu.clock⟩
  rw [State.book_some u hc, State.closeWindow, State.closeSlot_eq hr' (q := (r.foamOutcome (s.item iGammaMin)).close s.clock) rfl]
  exact (hb.addClose _).raise _ _ _

theorem State.closeWindow_record (hr : s.record i = some r) (hij : i ≠ j) : (s.closeWindow i).record j = s.record j := by
  rw [State.closeWindow_refiled hr j, if_neg hij]

theorem State.closeWindows_record (hn : l.Nodup) (hl : ∀ i ∈ l, s.record i ≠ none) (hj : j ∉ l) :
    (l.foldl State.closeWindow s).record j = s.record j := by
  induction l generalizing s with
  | nil => rfl
  | cons i l ih =>
    obtain ⟨hi, hn⟩ := List.nodup_cons.mp hn
    obtain ⟨r, hr⟩ := Option.ne_none_iff_exists'.mp (hl i (by simp))
    have hkeep {k} (hk : i ≠ k) := State.closeWindow_record (j := k) hr hk
    rw [List.foldl_cons, ih hn (fun k hk => ?_) (fun h => hj (by simp [h])), hkeep (by rintro rfl; simp at hj)]
    rw [hkeep (ne_of_mem_of_not_mem hk hi).symm]
    exact hl k (by simp [hk])

/-- The windows of a list closed one after another: where their slots go, and what is booked. -/
theorem State.closeWindows_eq {u : State} (T : Slot → Option Record) (hn : l.Nodup) (hl : ∀ i ∈ l, s.record i ≠ none)
    (hu : s.SameBooks u) (hT : ∀ i ∈ l, T i = (l.foldl State.closeWindow s).record i) :
    (l.foldl State.closeWindow s).table.openSet = s.table.openSet.filter (fun i => !l.contains i)
    ∧ (l.foldl State.closeWindow s).table.closedList = s.table.closedList ++ l
    ∧ (∀ j, j ∈ (l.foldl State.closeWindow s).table.shredQueue → j ∈ s.table.shredQueue)
    ∧ (l.foldl State.closeWindow s).SameBooks (l.foldl (State.book T) u) := by
  induction l generalizing s u with
  | nil => simp [hu]
  | cons i l ih =>
    obtain ⟨hi, hn⟩ := List.nodup_cons.mp hn
    obtain ⟨r, hr⟩ := Option.ne_none_iff_exists'.mp (hl i (by simp))
    obtain ⟨hopen, hclosed, hshred⟩ := State.closeWindow_table hr
    have hl' : ∀ k ∈ l, (s.closeWindow i).record k ≠ none := fun k hk => by
      rw [State.closeWindow_record hr (ne_of_mem_of_not_mem hk hi).symm]
      exact hl k (by simp [hk])
    have hTi : T i = (s.closeWindow i).record i := by
      rw [hT i (by simp), List.foldl_cons, State.closeWindows_record hn hl' hi]
    obtain ⟨ho, hc, hq, hb⟩ := ih hn hl' (State.closeWindow_books T hu hr hTi) fun k hk => hT k (by simp [hk])
    simp only [List.foldl_cons]
    refine ⟨?_, ?_, fun j hj => ?_, hb⟩
    · rw [ho, hopen, List.filter_filter]
      refine List.filter_congr fun k _ => ?_
      by_cases hk : k = i <;> simp [hk]
    · rw [hc, hclosed, List.append_assoc]
      rfl
    · have := hq j hj
      rw [hshred] at this
      exact List.mem_of_mem_filter this

end Changes

end Sys2Proof.Machine
end

section
/-! The attribution tick as a whole (`Obligations.TickAmounts`): its part before the closings, the closings, and what comes
behind them. -/

namespace Sys2Proof.Machine

section Tick

variable {s t : State} {y : TickReadings} {i j : Slot}

/-! ### Parts 1 to 7: the readings, the division, the amounts -/

/-- BREAKTHROUGH does not enter parts 1 to 4 (R95 to R99). -/
theorem Foam.fix_breakthrough (f : Foam) (b : Bool) (v : Option Nat) :
    (Foam.fix { f with breakthrough := b } v).dEff = (f.fix v).dEff
      ∧ (Foam.fix { f with breakthrough := b } v).drained = (f.fix v).drained := by
  cases v with
  | none => exact ⟨rfl, rfl⟩
  | some v =>
    cases hb : f.baseline with
    | none =>
      simp only [Foam.fix, hb, Foam.takeBaseline]
      split <;> exact ⟨rfl, rfl⟩
    | some p =>
      simp only [Foam.fix, hb, Foam.follow]
      split
      · exact ⟨rfl, rfl⟩
      · split <;> exact ⟨rfl, rfl⟩

/-- The state of a tick before its windows count down: breakthrough judged, foam divided, amounts handed over (R94 to R102). -/
def State.tickGained (s : State) (y : TickReadings) : State := (s.judgeBreakthrough y).tickGain y.vessel

/-- The amounts of a tick on the books of `s` (R102, R106, R117). -/
def State.tickBooks (s : State) (y : TickReadings) (x : TickFix) : State :=
  State.tickTotals { s with arb := s.arb.report s.clock srcBreakthrough (s.breakthroughAt y) none (some (.number y.outlet)) }
    s.divides x.dEff x.drained

theorem State.divide_same (s : State) (gap drain : Bool) (d : Nat) : s.divide gap drain d =
    { s with table := { s.table with slots := (s.divide gap drain d).table.slots } } := by
  rw [State.divide_eq]
  exact State.foldl_modRecord_eq _ _ _

theorem State.divide_record (hn : s.table.openSet.Nodup) (gap drain : Bool) (d : Nat) (j : Slot) :
    (s.divide gap drain d).record j = if j ∈ s.table.openSet then
      (s.record j).map (Record.ticked gap drain (if s.divides then s.given d j else 0)) else s.record j := by
  rw [State.divide_eq]
  exact State.foldl_modRecord_record (fun i => Record.ticked gap drain (if s.divides then s.given d i else 0)) hn s j

@[simp] theorem State.tickTotals_table (s : State) (w : Bool) (d k : Nat) : (s.tickTotals w d k).table = s.table := by
  simp only [State.tickTotals, State.addTotal_table]

theorem State.SameBooks.tickTotals (h : s.SameBooks t) (w : Bool) (d k : Nat) :
    (s.tickTotals w d k).SameBooks (t.tickTotals w d k) := ((h.addTotal _ _).addTotal _ _).addTotal _ _

theorem State.tickGained_books (s : State) (y : TickReadings) :
    (s.tickGained y).SameBooks (s.tickBooks y (s.foam.fix y.vessel)) := by
  obtain ⟨heff, hdrained⟩ := s.foam.fix_breakthrough (s.breakthroughAt y) y.vessel
  rw [State.tickBooks, ← heff, ← hdrained]
  refine State.SameBooks.tickTotals ?_ _ _ _
  rw [State.divide_same]
  exact ⟨rfl, rfl, rfl⟩

theorem State.tickGained_table (s : State) (y : TickReadings) :
    (s.tickGained y).table = { s.table with slots := (s.tickGained y).table.slots } := by
  rw [State.tickGained, State.tickGain]
  simp only [State.tickTotals_table]
  rw [State.divide_same]
  rfl

/-- A member's ticks are not touched before the countdown. -/
theorem State.tickGained_ticks (hn : s.table.openSet.Nodup) (y : TickReadings) (j : Slot) :
    ((s.tickGained y).record j).map Record.ticks = (s.record j).map Record.ticks := by
  have hrec {t : State} (ht : (s.tickGained y).table = t.table) : (s.tickGained y).record j = t.record j := by
    rw [State.record, ht, State.record]
  rw [hrec (State.tickTotals_table _ _ _ _)]
  refine (congrArg (Option.map Record.ticks) (State.divide_record ?_ _ _ _ j)).trans ?_
  · exact hn
  split
  · rw [Option.map_map]
    rfl
  · rfl

/-! ### Part 8: the countdown and the closings -/

/-- The windows that a tick closes, as they stand before it (R103). -/
def State.lastTicks (s : State) : List Slot :=
  s.table.openSet.filter fun i => (s.record i).any fun r => r.ticks.any fun k => decide (k ≤ 1)

/-- The state of a tick after the countdown of its windows. -/
def State.tickCounted (s : State) (y : TickReadings) : State :=
  (s.tickGained y).modRecords (s.tickGained y).table.openSet Record.countDown

theorem State.tickCounted_table (s : State) (y : TickReadings) :
    (s.tickCounted y).table = { s.table with slots := (s.tickCounted y).table.slots } := by
  rw [State.tickCounted, State.modRecords_eq, State.tickGained_table]

theorem State.tickCounted_books (s : State) (y : TickReadings) :
    (s.tickCounted y).SameBooks (s.tickBooks y (s.foam.fix y.vessel)) := by
  obtain ⟨ht, ha, hc⟩ := s.tickGained_books y
  rw [State.tickCounted, State.modRecords_eq]
  exact ⟨ht, ha, hc⟩

/-- A window reaches 0 ticks where one tick or none was left. -/
theorem Record.countDown_done (r : Record) : (r.countDown.ticks == some 0) = r.ticks.any fun k => decide (k ≤ 1) := by
  rw [Record.countDown]
  cases r.ticks with
  | none => rfl
  | some k =>
    rw [Bool.eq_iff_iff]
    simp [Nat.sub_eq_zero_iff_le]

theorem State.tickCounted_done (hn : s.table.openSet.Nodup) (hi : i ∈ s.table.openSet) (y : TickReadings) :
    (s.tickCounted y).windowDone i = (s.record i).any fun r => r.ticks.any fun k => decide (k ≤ 1) := by
  have hopen : (s.tickGained y).table.openSet = s.table.openSet := by rw [State.tickGained_table]
  have hticks := State.tickGained_ticks hn y i
  rw [State.windowDone, State.tickCounted, State.modRecords_record (hopen ▸ hn), if_pos (hopen ▸ hi)]
  cases hg : (s.tickGained y).record i <;> cases hr : s.record i <;> simp only [hg, hr, Option.map_none, Option.map_some] at hticks
  case none.none => rfl
  case none.some => cases hticks
  case some.none => cases hticks
  case some.some q r =>
    have hqr : q.ticks = r.ticks := by simpa using hticks
    rw [Option.map_some, Option.any_some, Option.any_some, Record.countDown_done, hqr]

/-- The state of a tick after its closings. -/
def State.tickClosed (s : State) (y : TickReadings) : State := s.lastTicks.foldl State.closeWindow (s.tickCounted y)

theorem State.countWindows_eq (hn : s.table.openSet.Nodup) (y : TickReadings) :
    (s.tickGained y).countWindows = s.tickClosed y := by
  have hopen : (s.tickCounted y).table.openSet = s.table.openSet := by rw [State.tickCounted_table]
  have hlist : (s.tickCounted y).table.openSet.filter (s.tickCounted y).windowDone = s.lastTicks := by
    rw [hopen]
    exact List.filter_congr fun i hi => State.tickCounted_done hn hi y
  rw [State.tickClosed, ← hlist]
  rfl

theorem State.tickCounted_record (hn : s.table.openSet.Nodup) (hi : i ∈ s.lastTicks) (y : TickReadings) :
    (s.tickCounted y).record i ≠ none := by
  obtain ⟨hin, hany⟩ := List.mem_filter.mp hi
  rw [← State.tickCounted_done hn hin y, State.windowDone] at hany
  rintro h
  simp [h] at hany

/-- The closings of a tick: where their slots go, and what is booked for the records they leave. -/
theorem State.tickClosed_eq (hn : s.table.openSet.Nodup) (y : TickReadings) {T : Slot → Option Record}
    (hT : ∀ i ∈ s.lastTicks, T i = (s.tickClosed y).record i) :
    (s.tickClosed y).table.openSet = s.table.openSet.filter (fun i => !s.lastTicks.contains i)
    ∧ (s.tickClosed y).table.closedList = s.table.closedList ++ s.lastTicks
    ∧ (∀ j, j ∈ (s.tickClosed y).table.shredQueue → j ∈ s.table.shredQueue)
    ∧ (s.tickClosed y).SameBooks (s.lastTicks.foldl (State.book T) (s.tickBooks y (s.foam.fix y.vessel))) := by
  have hlast : s.lastTicks.Nodup := hn.filter _
  have h := State.closeWindows_eq T hlast (fun i hi => State.tickCounted_record hn hi y) (s.tickCounted_books y) hT
  rw [State.tickCounted_table] at h
  exact h

/-! ### Part 9 and the Feeder's judgement -/

/-- What BREAKTHROUGH and the Feeder's judgement leave of a state: its books, its windows and its closed records. -/
structure State.KeepsClosed (s t : State) : Prop where
  books : s.SameBooks t
  openSet : t.table.openSet = s.table.openSet
  closedList : t.table.closedList = s.table.closedList
  record : ∀ j, j ∉ s.table.openSet → j ∉ s.table.shredQueue → t.record j = s.record j

theorem State.KeepsClosed.refl (s : State) : s.KeepsClosed s := ⟨⟨rfl, rfl, rfl⟩, rfl, rfl, fun _ _ _ => rfl⟩

theorem State.markBreakthrough_keeps (hn : s.table.openSet.Nodup) : s.KeepsClosed s.markBreakthrough := by
  unfold State.markBreakthrough
  split
  · have heq := s.modRecords_eq s.table.openSet (Record.flag .breakthrough)
    refine ⟨?_, ?_, ?_, fun j hj _ => by rw [State.modRecords_record hn, if_neg hj]⟩ <;> rw [heq]
    exact ⟨rfl, rfl, rfl⟩
  · exact .refl s

theorem State.judgePermit_keeps (s : State) : s.KeepsClosed s.judgePermit := by
  by_cases hw : s.feeder.state = .waitPermit
  · cases hq : s.table.shredQueue with
    | nil =>
      rw [State.judgePermit_empty hw hq]
      exact ⟨⟨rfl, rfl, rfl⟩, rfl, rfl, fun _ _ _ => rfl⟩
    | cons k rest =>
      rw [State.judgePermit_queue hw (by simp [hq])]
      split
      · rw [State.enterOpening_eq hq]
        refine ⟨⟨rfl, rfl, rfl⟩, rfl, rfl, fun j _ hj => ?_⟩
        have hkj : k.val ≠ j.val := fun e => hj (by simp [hq, Fin.ext e])
        simp [State.record, hkj]
      · exact .refl s
  · rw [State.judgePermit_other hw]
    exact .refl s

theorem State.KeepsClosed.trans {u : State} (h : s.KeepsClosed t) (k : t.KeepsClosed u)
    (hq : t.table.shredQueue = s.table.shredQueue) : s.KeepsClosed u := by
  refine ⟨⟨h.books.totals.trans k.books.totals, h.books.arb.trans k.books.arb, h.books.clock.trans k.books.clock⟩,
    k.openSet.trans h.openSet, k.closedList.trans h.closedList, fun j ho hs => ?_⟩
  rw [k.record j (by rwa [h.openSet]) (by rwa [hq]), h.record j ho hs]

theorem State.markBreakthrough_shredQueue (s : State) : s.markBreakthrough.table.shredQueue = s.table.shredQueue := by
  unfold State.markBreakthrough
  split
  · rw [State.modRecords_eq]
  · rfl

/-- A tick is its closings, and what leaves the closed records as they are. -/
theorem State.tick_keeps (hn : s.table.openSet.Nodup) (y : TickReadings) : (s.tickClosed y).KeepsClosed (s.tick y) := by
  obtain ⟨ho, -, -, -⟩ := State.tickClosed_eq hn y (T := (s.tickClosed y).record) fun _ _ => rfl
  rw [← State.countWindows_eq hn y] at ho ⊢
  have hmark := State.markBreakthrough_keeps (s := (s.tickGained y).countWindows) (by rw [ho]; exact hn.filter _)
  have hqueue := State.markBreakthrough_shredQueue (s.tickGained y).countWindows
  have hdue : (s.tickGained y).countWindows.KeepsClosed { (s.tickGained y).countWindows.markBreakthrough with
      foam := { (s.tickGained y).countWindows.markBreakthrough.foam with tickDue := none } } := by
    obtain ⟨⟨ht, ha, hc⟩, ho, hl, hr⟩ := hmark
    exact ⟨⟨ht, ha, hc⟩, ho, hl, hr⟩
  unfold State.tick
  simp only
  split
  · exact hdue
  · exact hdue.trans (State.judgePermit_keeps _) hqueue

end Tick

/-! ### The obligation -/

theorem State.breakthroughAt_eq (s : State) (y : TickReadings) :
    s.breakthroughAt y = decide (y.outletStatus = .ok ∧ (s.item iLBreak : Int) < y.outlet) := by
  rw [Bool.eq_iff_iff]
  simp [State.breakthroughAt]

/-- The amounts of a tick, where none of the four totals saturates (R102, R117). -/
theorem State.tickTotals_account (s : State) (w : Bool) {d k : Nat} (hc : s.totals[totCaptured].value + d ≤ 4294967295)
    (ha : s.totals[totAttributed].value + d ≤ 4294967295) (hp : s.totals[totPool].value + d ≤ 4294967295)
    (hd : s.totals[totDrained].value + k ≤ 4294967295) :
    (s.tickTotals w d k).totals[totCaptured].value = s.totals[totCaptured].value + d
    ∧ (s.tickTotals w d k).totals[totAttributed].value = s.totals[totAttributed].value + (if w = true then d else 0)
    ∧ (s.tickTotals w d k).totals[totPool].value = s.totals[totPool].value + (if w = true then 0 else d)
    ∧ (s.tickTotals w d k).totals[totDrained].value = s.totals[totDrained].value + k := by
  cases w with
  | true =>
    simp (disch := decide) only [State.tickTotals, State.addTotal_other, State.addTotal_same, if_true, Total.add_value hc,
      Total.add_value ha, Total.add_value hd, Nat.add_zero, and_self]
  | false =>
    simp (disch := decide) only [State.tickTotals, State.addTotal_other, State.addTotal_same, if_false, Bool.false_eq_true,
      Total.add_value hc, Total.add_value hp, Total.add_value hd, Nat.add_zero, and_self]

/-- Settles O57: the closings are followed on the books of the tick's amounts, for the records the tick leaves. -/
theorem tickAmounts : Obligations.TickAmounts := by
  rintro s t y x w done broken htab hdue rfl ht rfl rfl rfl
  have h := s.tableLaw_iff.mp htab
  obtain rfl : s.tick y = t := by
    have htick : exec .attributionTick s = .next (s.tick y) := by
      show Host.Outcome.next s.tickStep = _
      rw [State.tickStep, hdue]
    simpa [htick] using ht
  have hn := h.opened.1
  have hkeep := State.tick_keeps hn y
  obtain ⟨ho, hc, hq, -⟩ := State.tickClosed_eq hn y (T := (s.tickClosed y).record) fun _ _ => rfl
  have hrec : ∀ i ∈ s.lastTicks, (s.tick y).record i = (s.tickClosed y).record i := fun i hi => by
    refine hkeep.record i (by rw [ho]; simp [hi]) fun hin => ?_
    have hphase := (h.opened.2 i).mp (List.mem_of_mem_filter hi)
    rw [(h.shred.2 i).mp (hq i hin)] at hphase
    cases hphase
  obtain ⟨-, -, -, hbooks⟩ := State.tickClosed_eq hn y hrec
  have htotals : (s.tick y).totals = (s.lastTicks.foldl (State.book (s.tick y).record) (s.tickBooks y (s.foam.fix y.vessel))).totals :=
    hkeep.books.totals.symm.trans hbooks.totals
  refine ⟨fun hcap hatt hpool hdr => ?_, hkeep.closedList.trans hc, hkeep.openSet.trans ho, _, htotals,
    hkeep.books.arb.symm.trans hbooks.arb, ?_⟩
  · have hacc (j : TotalNo) (hj : j ∈ totFoamAccount) := State.books_account (s.tick y).record s.lastTicks
      (s.tickBooks y (s.foam.fix y.vessel)) hj
    rw [htotals, hacc totCaptured (by decide), hacc totAttributed (by decide), hacc totPool (by decide),
      hacc totDrained (by decide)]
    exact State.tickTotals_account _ _ hcap hatt hpool hdr
  · rw [State.tickBooks, State.breakthroughAt_eq]
    rfl

end Sys2Proof.Machine
end

section
/-! FEED GATE while TRIPPED and the stations in STOP and INITIAL (`Obligations.GateAndStopLawsKept`): what each block can do to
the two laws. A pass, a tick and the gate leave the stations and the line; the stations leave the Feeder and the atmosphere. -/

namespace Sys2Proof.Machine

/-! ### The two laws (R25, R45, R70, R171) -/

theorem State.gateLaw_iff (s : State) : s.gateLaw ↔
    (s.feeder.state = .opening ∨ s.feeder.state = .passing → s.atm.state ≠ .tripped) := by
  simp [State.gateLaw, State.feedGateOut]

/-- PIERCE and SUCTION are outputs of running states, so that the law speaks of these alone (R26). -/
theorem State.stopLaw_iff (s : State) : s.stopLaw ↔ ∀ n, (s.fitted n = false → (s.station n).state = .idle)
    ∧ (s.line.state = .stop ∨ s.line.state = .initial → (s.station n).state.running = false) := by
  have hout (n : StationNo) (h : (s.station n).state.running = false) : s.pierceOut n = false ∧ s.suctionOut n = false := by
    unfold State.pierceOut State.suctionOut
    cases hx : (s.station n).state <;> simp [hx, StationState.running] at h ⊢
  exact forall_congr' fun n => and_congr_right' ⟨fun h hl => (h hl).1, fun h hl => ⟨h hl, hout n (h hl)⟩⟩

/-- A move that keeps both laws. -/
structure State.Safely (s t : State) : Prop where
  gate : s.gateLaw → t.gateLaw
  stop : s.stopLaw → t.stopLaw

/-- A station that begins no attempt, and stays IDLE where it is IDLE. -/
def StationState.Calm (x y : StationState) : Prop := (y.running = true → x.running = true) ∧ (x = .idle → y = .idle)

section Safely

variable {s t u : State}

theorem State.Safely.trans (h : s.Safely t) (k : t.Safely u) : s.Safely u :=
  ⟨fun hg => k.gate (h.gate hg), fun hs => k.stop (h.stop hs)⟩

theorem StationState.Calm.refl (x : StationState) : x.Calm x := ⟨id, id⟩

theorem StationState.Calm.trans {x y z : StationState} (h : x.Calm y) (k : y.Calm z) : x.Calm z :=
  ⟨fun hz => h.1 (k.1 hz), fun hx => k.2 (h.2 hx)⟩

/-- Between running states. -/
theorem StationState.Calm.of_running {x y : StationState} (h : x.running = true) : x.Calm y :=
  ⟨fun _ => h, by rintro rfl; cases h⟩

/-- From a state that is not IDLE to one that does not run. -/
theorem StationState.Calm.of_ended {x y : StationState} (hx : x ≠ .idle) (hy : y.running = false) : x.Calm y :=
  ⟨fun h => by simp [hy] at h, fun h => absurd h hx⟩

/-- Calm stations on a line that stays keep the law of STOP. -/
theorem State.stopLaw.of_calm (h : s.stopLaw) (hf : t.fitted4 = s.fitted4) (hl : t.line.state = s.line.state)
    (hst : ∀ n, (s.station n).state.Calm (t.station n).state) : t.stopLaw := by
  have hfit : t.fitted = s.fitted := by unfold State.fitted State.fittedCount; rw [hf]
  rw [State.stopLaw_iff] at h ⊢
  rw [hfit, hl]
  refine fun n => ⟨fun hn => (hst n).2 ((h n).1 hn), fun hn => ?_⟩
  exact Bool.eq_false_iff.mpr fun hr => by simpa [(h n).2 hn] using (hst n).1 hr

/-- A move of the gate or the atmosphere, at stations and a line that stay. -/
theorem State.Safely.of_gate (hs : t.stations = s.stations) (hf : t.fitted4 = s.fitted4) (hl : t.line.state = s.line.state)
    (hg : s.gateLaw → t.gateLaw) : s.Safely t := by
  have hst : t.station = s.station := by unfold State.station; rw [hs]
  exact ⟨hg, fun h => h.of_calm hf hl fun n => by rw [hst]; exact .refl _⟩

/-- A move that leaves what the two laws read. -/
theorem State.Safely.of_same (hs : t.stations = s.stations) (hf : t.fitted4 = s.fitted4) (hl : t.line.state = s.line.state)
    (hg : t.feeder.state = s.feeder.state) (ha : t.atm.state = s.atm.state) : s.Safely t :=
  .of_gate hs hf hl fun h => by rw [State.gateLaw_iff] at h ⊢; rwa [hg, ha]

theorem State.Safely.refl (s : State) : s.Safely s := ⟨id, id⟩

end Safely

/-! ### The gate (R70 to R79) -/

section Gate

variable {s t : State}

theorem State.gateLaw.of_same (h : s.gateLaw) (hg : t.feeder.state = s.feeder.state) (ha : t.atm.state = s.atm.state) :
    t.gateLaw := by
  rw [State.gateLaw_iff] at h ⊢
  rwa [hg, ha]

theorem State.gateLaw_of_closed (h : s.feeder.state ≠ .opening ∧ s.feeder.state ≠ .passing) : s.gateLaw :=
  s.gateLaw_iff.mpr fun ho => by rcases ho with ho | ho <;> simp [ho] at h

theorem State.gateLaw_of_untripped (h : s.atm.state ≠ .tripped) : s.gateLaw := s.gateLaw_iff.mpr fun _ => h

/-- The permit is not given while TRIPPED (R73). -/
theorem State.permit_untripped (h : s.permit = true) : s.atm.state ≠ .tripped := by
  intro ht
  simp [State.permit, State.atmosphereFits, ht] at h

theorem State.gateLaw.judgePermit (h : s.gateLaw) : s.judgePermit.gateLaw := by
  unfold State.judgePermit
  split
  · split
    · exact State.gateLaw_of_closed ⟨nofun, nofun⟩
    · split
      case isTrue hp =>
        have hatm : s.enterOpening.atm = s.atm := by rw [s.enterOpening_frame]
        exact State.gateLaw_of_untripped (hatm ▸ State.permit_untripped hp)
      case isFalse => exact h
  · exact h

theorem State.gateLaw.judgeIdle (h : s.gateLaw) : s.judgeIdle.gateLaw := by
  unfold State.judgeIdle
  split
  · exact State.gateLaw.judgePermit (State.gateLaw_of_closed ⟨nofun, nofun⟩)
  · exact h

theorem State.feederToIdle_gateLaw (s : State) : s.feederToIdle.gateLaw :=
  State.gateLaw.judgeIdle (State.gateLaw_of_closed ⟨nofun, nofun⟩)

theorem State.enterClosing_gateLaw (s : State) : s.enterClosing.gateLaw := by
  rw [State.enterClosing_eq]
  split
  · exact State.feederToIdle_gateLaw _
  · exact State.gateLaw_of_closed ⟨nofun, nofun⟩

theorem State.enterJam_gateLaw (s : State) (c : JamCause) : (s.enterJam c).gateLaw :=
  State.gateLaw_of_closed ⟨nofun, nofun⟩

/-- A trip or a STOP leaves the gate off, whatever the Feeder did (R79). -/
theorem State.feederHalt_gateLaw (s : State) (c : JamCause) : (s.feederHalt c).gateLaw := by
  unfold State.feederHalt
  split
  · exact State.feederToIdle_gateLaw _
  · exact s.enterJam_gateLaw c
  case h_3 ho hp => exact State.gateLaw_of_closed ⟨ho, hp⟩

theorem State.Safely.of_halt (h : HaltFrame s t) (hg : s.gateLaw → t.gateLaw) : s.Safely t :=
  .of_gate (by rw [h]) (by rw [h]) (by rw [h]) hg

theorem State.judgePermit_safely (s : State) : s.Safely s.judgePermit :=
  .of_halt s.judgePermit_frame.halt State.gateLaw.judgePermit

theorem State.feederPass_safely (s : State) : s.Safely s.feederPass :=
  .of_halt s.feederPass_frame fun h => State.gateLaw.judgePermit (h.of_same rfl rfl)

theorem State.gateOpened_safely (s : State) : s.Safely s.gateOpened := by
  unfold State.gateOpened
  simp only
  split
  · exact .refl s
  · split
    case isTrue ho =>
      refine .of_gate rfl rfl rfl fun h => ?_
      rw [State.gateLaw_iff] at h ⊢
      exact fun _ => h (.inl ho)
    case isFalse => exact .of_same rfl rfl rfl rfl rfl

theorem State.gateShut_safely (s : State) : s.Safely s.gateShut := by
  have hpin : s.Safely { s with pins := { s.pins with gateClosed := true } } := .of_same rfl rfl rfl rfl rfl
  unfold State.gateShut
  simp only
  split
  · exact .refl s
  · split
    · exact hpin.trans (.of_halt (State.feederToIdle_frame _).halt fun _ => State.feederToIdle_gateLaw _)
    · exact hpin

theorem State.openExpired_safely (s : State) : s.Safely s.openExpired := by
  unfold State.openExpired
  split
  · exact .of_halt (s.returnToHead_frame.halt.trans (State.enterJam_frame _ _)) fun _ => State.enterJam_gateLaw _ _
  · exact .refl s

theorem State.passExpired_safely (s : State) : s.Safely s.passExpired := by
  unfold State.passExpired
  split
  · exact .of_halt (s.enterJam_frame _) fun _ => s.enterJam_gateLaw _
  · exact .refl s

theorem State.closeExpired_safely (s : State) : s.Safely s.closeExpired := by
  unfold State.closeExpired
  split
  · exact .of_halt (s.enterJam_frame _) fun _ => s.enterJam_gateLaw _
  · exact .refl s

theorem State.beamCleared_safely (s : State) : s.Safely s.beamCleared := by
  have hpin : s.Safely { s with pins := { s.pins with beam := false } } := .of_same rfl rfl rfl rfl rfl
  unfold State.beamCleared
  simp only
  split
  · exact hpin.trans (.of_halt ((State.feedEvent_frame _ _ _).trans (State.enterClosing_frame _)).halt
      fun _ => State.enterClosing_gateLaw _)
  · exact hpin

theorem State.shredderRuns_safely (s : State) (b : Bool) : s.Safely (s.shredderRuns b) := by
  unfold State.shredderRuns
  split
  · exact .refl s
  · exact State.Safely.trans (t := { s with pins := { s.pins with shredderRunning := b } }) (.of_same rfl rfl rfl rfl rfl)
      (State.judgePermit_safely _)

end Gate

/-! ### The stations (R25 to R48) -/

section Stations

variable {s t u : State} {n : StationNo}

/-- Every station calm. -/
def State.CalmTo (s t : State) : Prop := ∀ m, (s.station m).state.Calm (t.station m).state

theorem State.CalmTo.refl (s : State) : s.CalmTo s := fun _ => .refl _

theorem State.CalmTo.trans (h : s.CalmTo t) (k : t.CalmTo u) : s.CalmTo u := fun m => (h m).trans (k m)

theorem State.CalmTo.of_same (h : t.stations = s.stations) : s.CalmTo t := fun m => by
  unfold State.station
  rw [h]
  exact .refl _

/-- A move of the stations. -/
theorem State.Safely.of_stations (h : StationFrame s t) (hst : s.CalmTo t) : s.Safely t :=
  ⟨fun hg => hg.of_same (by rw [h]) (by rw [h]), fun hs => hs.of_calm (by rw [h]) (by rw [h]) hst⟩

/-- A change of one station. -/
theorem State.modStation_calm {g : Station → Station} (h : (s.station n).state.Calm (g (s.station n)).state) :
    s.CalmTo (s.modStation n g) := by
  intro m
  rw [State.modStation_station]
  split
  case isTrue hnm => subst hnm; exact h
  case isFalse => exact .refl _

/-- A change of one station that leaves its state. -/
theorem State.modStation_calm_same {g : Station → Station} (h : ∀ x, (g x).state = x.state) : s.CalmTo (s.modStation n g) :=
  State.modStation_calm (by rw [h]; exact .refl _)

theorem State.modRecord_calm (s : State) (i : Slot) (f : Record → Record) : s.CalmTo (s.modRecord i f) := .of_same rfl

theorem State.modRecord_modStation_calm {i : Slot} {g : Station → Station} (f : Record → Record)
    (h : ∀ x, (g x).state = x.state) : s.CalmTo ((s.modRecord i f).modStation n g) :=
  (s.modRecord_calm i f).trans (State.modStation_calm_same h)

theorem State.enterTimed_calm {x : StationState} (h : (s.station n).state.Calm x) (ms : Nat) : s.CalmTo (s.enterTimed n x ms) :=
  State.modStation_calm h

theorem State.enterAwait_calm (h : (s.station n).state ≠ .idle) : s.CalmTo (s.enterAwait n) := by
  rw [State.enterAwait_eq]
  refine State.modStation_calm (.of_ended h ?_)
  rw [Station.awaiting]
  split <;> rfl

theorem State.enterFaulted_calm (h : (s.station n).state ≠ .idle) (c : FaultCause) (x : Option Slot) :
    s.CalmTo (s.enterFaulted n c x) := by
  rw [State.enterFaulted_eq]
  exact (State.modStation_calm (.of_ended h rfl)).trans (.of_same rfl)

theorem State.returnBound_calm (s : State) (n : StationNo) : s.CalmTo (s.returnBound n) := by
  unfold State.returnBound
  split <;> exact .of_same rfl

theorem State.returnBound_station (s : State) (n m : StationNo) : (s.returnBound n).station m = s.station m := by
  unfold State.returnBound
  split <;> rfl

theorem State.endAttempt_calm (h : (s.station n).state ≠ .idle) (i : Slot) : s.CalmTo (s.endAttempt n i) := by
  have await {t : State} (ht : t.stations = s.stations) : s.CalmTo (t.enterAwait n) :=
    (State.CalmTo.of_same ht).trans (State.enterAwait_calm (by rwa [State.station, ht]))
  unfold State.endAttempt
  split
  · exact await rfl
  · exact await rfl
  · exact await rfl
  · exact (s.modRecord_calm i Record.unbind).trans (State.enterFaulted_calm (s := s.modRecord i Record.unbind) h _ (some i))
  · exact await rfl
  · exact await rfl
  · split
    · exact .refl s
    · exact await rfl

/-- The weighing step ends the attempt or leaves the station as it is (R62). -/
theorem State.weigh_calm (h : (s.station n).state ≠ .idle) (wf ofl : Int) (b : Bool) : s.CalmTo (s.weigh n wf ofl b) := by
  unfold State.weigh
  split
  · exact .refl s
  · split
    · exact .refl s
    · refine State.CalmTo.trans ?_ (State.endAttempt_calm ?_ _)
      · exact State.modRecord_modStation_calm _ fun _ => rfl
      · rw [State.modStation_station, if_pos rfl]
        exact h

theorem State.enterPiercing_calm (h : (s.station n).state = .taring) : s.CalmTo (s.enterPiercing n) := by
  have hst : s.CalmTo ((s.modStation n fun x =>
      { x with
        tareReceiver := some (s.channel (scaleChannel n)).settledValue
        tareOil := some (s.channel (cupChannel n)).settledValue
        pierced := true }).enterTimed n .piercing (s.item iTPierce)) := by
    rw [State.enterTimed, State.modStation_modStation]
    exact State.modStation_calm (.of_running (by rw [h]; rfl))
  unfold State.enterPiercing
  simp only
  split
  · exact hst
  · exact hst.trans (.of_same rfl)

theorem State.judgeRings_calm (s : State) (n : StationNo) : s.CalmTo (s.judgeRings n) := by
  unfold State.judgeRings
  split
  · split
    case h_1 hs => exact State.enterPiercing_calm hs
    case h_2 hs => exact State.weigh_calm (by simp [hs]) _ _ _
    case h_3 hs => exact State.weigh_calm (by simp [hs]) _ _ _
    case h_4 => exact .refl s
  · exact .refl s

theorem State.enterTaring_calm (h : (s.station n).state.running = true) : s.CalmTo (s.enterTaring n) :=
  (State.enterTimed_calm (.of_running h) _).trans (State.judgeRings_calm _ n)

theorem StationState.ne_idle_of_running {x : StationState} (h : x.running = true) : x ≠ .idle := by rintro rfl; cases h

theorem State.enterWeighing_calm (h : (s.station n).state.running = true) : s.CalmTo (s.enterWeighing n) :=
  (State.enterTimed_calm (.of_running h) _).trans (State.judgeRings_calm _ n)

theorem State.enterAbortWeighing_calm (h : (s.station n).state.running = true) (c : EndCause) :
    s.CalmTo (s.enterAbortWeighing n c) := by
  rw [State.enterAbortWeighing_eq]
  exact (State.modStation_calm (.of_running h)).trans (State.judgeRings_calm _ n)

theorem State.enterDraining_calm (h : (s.station n).state.running = true) : s.CalmTo (s.enterDraining n) := by
  unfold State.enterDraining
  split
  · exact State.enterWeighing_calm h
  · exact State.enterTimed_calm (.of_running h) _

theorem State.enterRiseTest_calm (h : (s.station n).state.running = true) : s.CalmTo (s.enterRiseTest n) := by
  rw [State.enterRiseTest_eq]
  exact State.modStation_calm (.of_running h)

theorem State.judgeFill_calm (s : State) (n : StationNo) : s.CalmTo (s.judgeFill n) := by
  unfold State.judgeFill
  split
  case isTrue hs => exact State.enterAbortWeighing_calm (by rw [hs.1]; rfl) _
  case isFalse => exact .refl s

theorem State.enterEvacuating_calm (h : (s.station n).state.running = true) (b : Bool) : s.CalmTo (s.enterEvacuating n b) := by
  unfold State.enterEvacuating State.enterTimed
  rw [State.modStation_modStation]
  exact (State.modStation_calm (.of_running h)).trans (State.judgeFill_calm _ n)

theorem State.judgeDwell_calm (h : (s.station n).state.running = true) : s.CalmTo (s.judgeDwell n) := by
  unfold State.judgeDwell
  simp only
  split
  · exact State.modStation_calm_same fun _ => rfl
  · split
    · exact State.modStation_calm_same fun _ => rfl
    · split
      · exact State.modStation_calm_same fun _ => rfl
      · split
        · exact State.enterRiseTest_calm h
        · exact .refl s

theorem State.judgeRise_calm (h : (s.station n).state.running = true) : s.CalmTo (s.judgeRise n) := by
  unfold State.judgeRise
  simp only
  split
  · split
    · split
      · refine State.CalmTo.trans ?_ (State.enterEvacuating_calm ?_ false)
        · exact State.modStation_calm_same fun _ => rfl
        · rw [State.modStation_station, if_pos rfl]
          exact h
      · split
        · exact State.enterDraining_calm h
        · exact (s.modRecord_calm _ _).trans (State.enterDraining_calm (s := s.modRecord _ _) h)
    · exact .refl s
  · exact .refl s

theorem State.stationConverted_calm (s : State) (c : Fin 8) : s.CalmTo (s.stationConverted c) := by
  unfold State.stationConverted State.scaleConverted State.suctionConverted
  simp only
  split
  · split
    · exact s.judgeFill_calm _
    · exact s.judgeRings_calm _
  · split
    case h_1 hs => exact State.judgeDwell_calm (by rw [hs]; rfl)
    case h_2 hs => exact State.judgeRise_calm (by rw [hs]; rfl)
    case h_3 => exact .refl s

theorem State.judgeProbe_calm (h : (s.station n).state.running = true) (i : Slot) (c : Option Gas) (o : ProbeOutcome) :
    s.CalmTo (s.judgeProbe n i c o) := by
  have hm : s.CalmTo (s.modStation n fun x => { x with attemptClass := c }) := State.modStation_calm_same fun _ => rfl
  have hrun : ((s.modStation n fun x => { x with attemptClass := c }).station n).state.running = true := by
    rw [State.modStation_station, if_pos rfl]
    exact h
  unfold State.judgeProbe
  simp only
  split
  · exact hm.trans (State.enterAbortWeighing_calm hrun _)
  · refine (hm.trans (State.modRecord_calm _ i (Record.flag .classUndetermined))).trans ?_
    exact State.enterAbortWeighing_calm (by rw [State.modRecord_station]; exact hrun) _
  · refine hm.trans ?_
    exact State.modStation_calm_same fun _ => rfl
  · exact hm

theorem State.takeProbe_calm (h : (s.station n).state.running = true) (pair : BitVec 2) : s.CalmTo (s.takeProbe n pair) := by
  have hm : s.CalmTo (s.modStation n fun x => { x with probeTaken := true, probeDeadline := none }) :=
    State.modStation_calm_same fun _ => rfl
  unfold State.takeProbe
  simp only
  split
  · exact hm
  · split
    · exact hm
    · refine (hm.trans (fun m => ?_)).trans (State.judgeProbe_calm ?_ _ _ _)
      · rw [State.probeRecord_station]
        exact .refl _
      · rw [State.probeRecord_station, State.modStation_station, if_pos rfl]
        exact h

theorem State.evacTimedOut_calm (s : State) (n : StationNo) : s.CalmTo (s.evacTimedOut n) := by
  unfold State.evacTimedOut
  split
  case isTrue hs =>
    have hrun : (s.station n).state.running = true := by rw [hs]; rfl
    split
    · exact State.enterRiseTest_calm hrun
    · exact (s.modRecord_calm _ _).trans (State.enterRiseTest_calm (s := s.modRecord _ _) hrun)
  case isFalse => exact .refl s

theorem State.abort_calm (h : (s.station n).state.running = true) (c : EndCause) : s.CalmTo (s.abort n c) := by
  unfold State.abort
  split
  · exact State.enterAbortWeighing_calm h c
  · refine (s.returnBound_calm n).trans (State.enterAwait_calm ?_)
    rw [State.returnBound_station]
    exact StationState.ne_idle_of_running h

theorem State.faultUnpierced_calm (h : (s.station n).state.running = true) (c : FaultCause) :
    s.CalmTo (s.faultUnpierced n c) := by
  refine (s.returnBound_calm n).trans (State.enterFaulted_calm ?_ _ _)
  rw [State.returnBound_station]
  exact StationState.ne_idle_of_running h

theorem State.expires_running {x : StationState} (h : s.expires n x = true) (hx : x.running = true) :
    (s.station n).state.running = true := by rw [State.expires_state h]; exact hx

/-! ### The events of a station -/

/-- A change of the pins. -/
theorem State.pins_safely (s : State) (p : Pins) : s.Safely { s with pins := p } := .of_same rfl rfl rfl rfl rfl

theorem State.raise_safely (s : State) (i : SourceNo) (x : Option Nat) (v : Option Value) : s.Safely (s.raise i x v) :=
  .of_same rfl rfl rfl rfl rfl

theorem State.abort_safely (h : (s.station n).state.running = true) (c : EndCause) : s.Safely (s.abort n c) :=
  .of_stations (s.abort_frame n c) (State.abort_calm h c)

theorem State.clampClosed_safely (s : State) (n : StationNo) : s.Safely (s.clampClosed n) := by
  have hpin := s.pins_safely { s.pins with clamp := s.pins.clamp.set n true }
  unfold State.clampClosed
  simp only
  split
  · exact .refl s
  · split
    case isTrue hs =>
      have hrun : (s.station n).state.running = true := by rw [hs]; rfl
      exact hpin.trans (.of_stations (State.enterTaring_frame _ n) (State.enterTaring_calm hrun))
    case isFalse => exact hpin

theorem State.clampOpen_safely (s : State) (n : StationNo) : s.Safely (s.clampOpen n) := by
  have hpin := s.pins_safely { s.pins with clamp := s.pins.clamp.set n false }
  have stop {x : StationState} (hs : (s.station n).state = x) (hx : x.running = true) :=
    (hpin.trans (State.abort_safely (n := n) (by rw [← hs] at hx; exact hx) .clampOpened)).trans
      (State.raise_safely _ (srcStationFault n) ((s.station n).bound.map Fin.val) (some (.fault .clampOpened)))
  unfold State.clampOpen
  simp only
  split
  · exact .refl s
  · split
    case h_1 hs => exact stop hs rfl
    case h_2 hs => exact stop hs rfl
    case h_3 hs => exact stop hs rfl
    case h_4 hs => exact stop hs rfl
    case h_5 hs => exact stop hs rfl
    case h_6 hs =>
      have hidle : (s.station n).state ≠ .idle := by simp [hs]
      exact hpin.trans (.of_stations (State.enterAwait_frame _ n) (State.enterAwait_calm hidle))
    case h_7 => exact hpin

/-- An expiry that is not due changes nothing (R143). -/
theorem State.Safely.of_expiry {x : StationState} {t : State} (hx : x.running = true)
    (h : (s.station n).state.running = true → s.Safely t) : s.Safely (if s.expires n x then t else s) := by
  split
  case isTrue he => exact h (State.expires_running he hx)
  case isFalse => exact .refl s

theorem State.faultUnpierced_safely (h : (s.station n).state.running = true) (c : FaultCause) :
    s.Safely (s.faultUnpierced n c) := .of_stations (s.faultUnpierced_frame n c) (State.faultUnpierced_calm h c)

theorem State.pierceExpired_safely (s : State) (n : StationNo) : s.Safely (s.pierceExpired n) :=
  .of_expiry rfl fun h => .of_stations (s.enterEvacuating_frame n true) (State.enterEvacuating_calm h true)

theorem State.riseExpired_safely (s : State) (n : StationNo) : s.Safely (s.riseExpired n) :=
  .of_expiry rfl fun h => .of_stations (s.enterDraining_frame n) (State.enterDraining_calm h)

theorem State.drainExpired_safely (s : State) (n : StationNo) : s.Safely (s.drainExpired n) :=
  .of_expiry rfl fun h => .of_stations (s.enterWeighing_frame n) (State.enterWeighing_calm h)

theorem State.takeProbe_safely (h : (s.station n).state.running = true) (pair : BitVec 2) :
    s.Safely ((s.analyserSeen n pair).takeProbe n pair) :=
  (s.pins_safely _).trans (.of_stations (State.takeProbe_frame _ n pair) (State.takeProbe_calm (s := s.analyserSeen n pair) h pair))

theorem State.probeExpired_safely (s : State) (n : StationNo) (pair : BitVec 2) : s.Safely (s.probeExpired n pair) := by
  unfold State.probeExpired
  split
  case isTrue hs => exact State.takeProbe_safely (by rw [hs.1]; rfl) pair
  case isFalse => exact .refl s

theorem State.evacTimedOut_safely (s : State) (n : StationNo) : s.Safely (s.evacTimedOut n) :=
  .of_stations (s.evacTimedOut_frame n) (s.evacTimedOut_calm n)

theorem State.evacExpired_safely (s : State) (n : StationNo) (pair : BitVec 2) : s.Safely (s.evacExpired n pair) := by
  refine .of_expiry rfl fun h => ?_
  split
  · exact s.evacTimedOut_safely n
  · exact (State.takeProbe_safely h pair).trans (State.evacTimedOut_safely _ n)

theorem State.settleExpired_safely (s : State) (n : StationNo) : s.Safely (s.settleExpired n) := by
  refine .of_stations (s.settleExpired_frame n) ?_
  unfold State.settleExpired
  split
  case isTrue he =>
    refine State.weigh_calm ?_ _ _ _
    rcases (Bool.or_eq_true _ _).mp he with he | he <;> simp [State.expires_state he]
  case isFalse => exact .refl s

/-- An attempt begins in RUN at a fitted station alone (R25, R29). -/
theorem State.beginAttempt_safely {i : Slot} (hl : s.line.state = .run) (hf : s.fitted n = true) :
    s.Safely (s.beginAttempt n i) := by
  have hframe := s.beginAttempt_frame n i
  have hline : (s.beginAttempt n i).line = s.line := by rw [hframe]
  have hfit : (s.beginAttempt n i).fitted = s.fitted := by
    unfold State.fitted State.fittedCount
    rw [hframe]
  have hother (m : StationNo) (hm : n ≠ m) : (s.station m).state.Calm ((s.beginAttempt n i).station m).state := by
    have hbegun : ((s.modRecord i (Record.bind n)).modStation n
        (Station.begun i (after s.clock (s.item iTClamp)))).station m = s.station m := by
      rw [State.modStation_station, if_neg hm]
      rfl
    rw [State.beginAttempt_eq, ← hbegun]
    split
    · exact State.enterTaring_calm (by rw [State.modStation_station, if_pos rfl]; rfl) m
    · exact .refl _
  refine ⟨fun h => h.of_same (by rw [hframe]) (by rw [hframe]), fun h => ?_⟩
  rw [State.stopLaw_iff] at h ⊢
  rw [hline, hl, hfit]
  refine fun m => ⟨fun hm => (hother m ?_).2 ((h m).1 hm), by simp⟩
  rintro rfl
  simp [hf] at hm

end Stations

/-! ### The tick and the passes (R83 to R106, R122 to R125) -/

/-- All but the table, the unit's own state, the totals and the arbiter is unchanged. -/
def TickFrame (s t : State) : Prop := t = { s with table := t.table, foam := t.foam, totals := t.totals, arb := t.arb }

section Passes

variable {s t u : State}

theorem TickFrame.refl (s : State) : TickFrame s s := rfl

theorem TickFrame.trans (h : TickFrame s t) (k : TickFrame t u) : TickFrame s u := by
  unfold TickFrame at *; rw [k, h]

theorem CloseFrame.tick (h : CloseFrame s t) : TickFrame s t := by
  unfold CloseFrame at h; unfold TickFrame; rw [h]

theorem State.tickTotals_frame (s : State) (w : Bool) (d k : Nat) : CloseFrame s (s.tickTotals w d k) :=
  ((s.addTotal_frame _ _).trans (State.addTotal_frame _ _ _)).trans (State.addTotal_frame _ _ _)

theorem State.divide_frame (s : State) (gap drain : Bool) (d : Nat) : TickFrame s (s.divide gap drain d) := by
  rw [State.divide_same]; rfl

theorem State.tickGain_frame (s : State) (x : Option Nat) : TickFrame s (s.tickGain x) :=
  have hfoam : TickFrame s { s with foam := (s.foam.fix x).foam } := rfl
  (hfoam.trans (State.divide_frame _ _ _ _)).trans (State.tickTotals_frame _ _ _ _).tick

theorem State.modRecords_tickFrame (s : State) (l : List Slot) (f : Record → Record) : TickFrame s (s.modRecords l f) := by
  rw [State.modRecords_eq]; rfl

theorem State.countWindows_frame (s : State) : TickFrame s s.countWindows :=
  (s.modRecords_tickFrame _ _).trans
    (foldl_frame TickFrame.refl TickFrame.trans (fun t i => (t.closeWindow_frame i).tick) _ _)

theorem State.markBreakthrough_frame (s : State) : TickFrame s s.markBreakthrough := by
  unfold State.markBreakthrough
  split
  · exact s.modRecords_tickFrame _ _
  · rfl

/-- A tick is a change of the books, and the Feeder's judgement where a window has closed (R73, R94). -/
theorem State.tick_cases (s : State) (x : TickReadings) :
    ∃ u, TickFrame s u ∧ u.foam.tickDue = none ∧ (s.tick x = u ∨ s.tick x = u.judgePermit) := by
  have hframe : TickFrame s ((s.judgeBreakthrough x).tickGain x.vessel).countWindows.markBreakthrough :=
    ((TickFrame.trans (t := s.judgeBreakthrough x) rfl (State.tickGain_frame _ _)).trans (State.countWindows_frame _)).trans
      (State.markBreakthrough_frame _)
  refine ⟨{ ((s.judgeBreakthrough x).tickGain x.vessel).countWindows.markBreakthrough with
    foam := { ((s.judgeBreakthrough x).tickGain x.vessel).countWindows.markBreakthrough.foam with tickDue := none } },
    hframe.trans rfl, rfl, ?_⟩
  unfold State.tick
  simp only
  split
  · exact .inl rfl
  · exact .inr rfl

theorem TickFrame.safely (h : TickFrame s t) : s.Safely t :=
  .of_same (by rw [h]) (by rw [h]) (by rw [h]) (by rw [h]) (by rw [h])

theorem State.tickStep_safely (s : State) : s.Safely s.tickStep := by
  unfold State.tickStep
  split
  · exact .refl s
  case h_2 x _ =>
    obtain ⟨u, hu, -, ht | ht⟩ := s.tick_cases x <;> rw [ht]
    · exact hu.safely
    · exact hu.safely.trans u.judgePermit_safely

theorem State.attributionPass_safely (s : State) (m a : Bool) : s.Safely (s.attributionPass m a) := by
  unfold State.attributionPass
  split
  · split
    · exact .refl s
    · exact s.tickStep_safely
  · exact .of_same rfl rfl rfl rfl rfl

/-- All but the atmosphere and the arbiter is unchanged. -/
def AtmFrame (s t : State) : Prop := t = { s with atm := t.atm, arb := t.arb }

theorem State.runHold_frame (s : State) (x : AtmState) : AtmFrame s (s.runHold x) := by
  unfold State.runHold
  split
  · rfl
  · split <;> rfl

theorem State.atmTransition_frame (s : State) (r : AtmReadings) (d : Bool) : AtmFrame s (s.atmTransition r d) := by
  unfold State.atmTransition
  simp only
  split
  · split <;> rfl
  · split
    · rfl
    · split
      · exact s.runHold_frame _
      · rfl
  · split
    · rfl
    · split <;> rfl
  · split
    · exact s.runHold_frame _
    · rfl
  · rfl

theorem State.runHold_state (s : State) (x : AtmState) : (s.runHold x).atm.state = s.atm.state ∨ (s.runHold x).atm.state = x := by
  unfold State.runHold
  split
  · exact .inl rfl
  · split
    · exact .inr rfl
    · exact .inl rfl

/-- A transition does not lead to TRIPPED (R88, R89). -/
theorem State.atmTransition_untripped (h : s.atm.state ≠ .tripped) (r : AtmReadings) (d : Bool) :
    (s.atmTransition r d).atm.state ≠ .tripped := by
  have hold {x : AtmState} (hx : x ≠ .tripped) : (s.runHold x).atm.state ≠ .tripped := by
    rcases s.runHold_state x with he | he <;> rw [he] <;> assumption
  unfold State.atmTransition
  simp only
  split
  · split
    · exact nofun
    · exact h
  · split
    · exact nofun
    · split
      · exact hold nofun
      · exact h
  · split
    · exact nofun
    · split
      · exact nofun
      · exact h
  · split
    · exact hold (by split <;> exact nofun)
    · exact h
  · exact h

/-- The atmosphere and MARGIN_LOST at the entry to TRIPPED (R87, R88). -/
def State.tripping (s : State) (c : TripCauses) : State :=
  State.marginRegained
    { s with atm := { s.atm with state := .tripped, tripCauses := some c, holdStart := none, holdLength := none } }

theorem State.enterTripped_eq (s : State) (c : TripCauses) : s.enterTripped c =
    (((s.tripping c).feederHalt .trip).modRecords ((s.tripping c).feederHalt .trip).table.openSet
      (Record.flag .tripDuringWindow)).raise srcTrip none (some (.trip c)) := rfl

/-- Entry to TRIPPED leaves all but the atmosphere, the table, the Feeder and the notices (R87). -/
theorem State.enterTripped_frame (s : State) (c : TripCauses) :
    s.enterTripped c = { s with
      table := (s.enterTripped c).table, feeder := ((s.tripping c).feederHalt .trip).feeder
      atm := (s.tripping c).atm, arb := (s.enterTripped c).arb } := by
  have hhalt := (s.tripping c).feederHalt_frame .trip
  rw [State.enterTripped_eq, State.modRecords_eq]
  generalize (State.modRecords _ _ _).table.slots = slots
  rw [hhalt]
  rfl

theorem State.enterTripped_gateLaw (s : State) (c : TripCauses) : (s.enterTripped c).gateLaw := by
  have hhalt := (s.tripping c).feederHalt_frame .trip
  refine ((s.tripping c).feederHalt_gateLaw .trip).of_same ?_ ?_ <;> rw [State.enterTripped_frame]
  rw [hhalt]

theorem State.atmMoves_safely (s : State) : s.Safely s.atmMoves := by
  have hreads : s.Safely s.atmReads := .of_same rfl rfl rfl rfl rfl
  unfold State.atmMoves
  split
  · exact hreads
  case isFalse h =>
    split
    · refine hreads.trans (.of_gate ?_ ?_ ?_ fun _ => State.enterTripped_gateLaw _ _) <;> rw [State.enterTripped_frame]
    · have hframe := s.atmReads.atmTransition_frame s.readingsNow s.demandNow
      refine hreads.trans (.of_gate ?_ ?_ ?_ fun _ =>
        State.gateLaw_of_untripped (State.atmTransition_untripped (s := s.atmReads) h _ _)) <;> rw [hframe]

theorem State.superviseFlow_safely (s : State) : s.Safely s.superviseFlow := by
  obtain ⟨hs, -⟩ := s.atm.supervise_same s.clock (s.item iTNf) s.flowRate (s.item iFMin)
  exact .of_same rfl rfl rfl rfl hs

theorem State.atmospherePass_safely (s : State) : s.Safely s.atmospherePass := by
  have hduty (t : State) (x : Int) : t.Safely (t.writeDuty x) := .of_same rfl rfl rfl rfl rfl
  rw [State.atmospherePass_eq]
  refine State.Safely.trans (State.Safely.trans ?_ (hduty _ _)) (State.superviseFlow_safely _)
  split
  · exact s.atmMoves_safely
  · exact s.atmMoves_safely.trans (State.judgePermit_safely _)

theorem foldl_safely {α : Type} {f : State → α → State} (hf : ∀ s a, State.Safely s (f s a)) (l : List α) (s : State) :
    s.Safely (l.foldl f s) := foldl_frame State.Safely.refl State.Safely.trans hf l s

theorem State.judgeRings_safely (s : State) (n : StationNo) : s.Safely (s.judgeRings n) :=
  .of_stations (s.judgeRings_frame n) (s.judgeRings_calm n)

theorem State.stationsPass_safely (s : State) : s.Safely s.stationsPass := by
  refine foldl_safely (fun t n => ?_) _ s
  split
  · exact t.judgeRings_safely n
  · exact .refl t

theorem State.readPass_safely (s : State) (m a : Bool) (x : PassReader) : s.Safely (s.readPass m a x) := by
  cases x with
  | atmosphere => exact s.atmospherePass_safely
  | attribution => exact s.attributionPass_safely m a
  | feeder => exact s.feederPass_safely
  | stations => exact s.stationsPass_safely

theorem State.passConverted_safely (s : State) (p : Pass) (raw : Vector Raw 8) : s.Safely (s.passConverted p raw) := by
  have hmod (t : State) (c : ChannelNo) (f : Channel → Channel) : t.Safely (t.modChannel c f) := .of_same rfl rfl rfl rfl rfl
  have htake : s.Safely (s.takePass raw) := foldl_safely (fun t _ => hmod t _ _) _ s
  exact htake.trans (.of_same rfl rfl rfl rfl rfl)

theorem State.passCompleted_safely (s : State) (raw : Vector Raw 8) (first : List PassReader) (a : Bool) :
    s.Safely (s.passCompleted raw first a) := by
  unfold State.passCompleted
  split
  · exact .refl s
  · exact (s.passConverted_safely _ _).trans (foldl_safely (fun t x => t.readPass_safely _ _ x) _ _)

theorem State.stationConverted_frame (s : State) (c : Fin 8) : StationFrame s (s.stationConverted c) := by
  unfold State.stationConverted
  simp only
  split
  · exact s.scaleConverted_frame _
  · exact s.suctionConverted_frame _

theorem State.groupAConverted_safely (s : State) (r : Raw) : s.Safely (s.groupAConverted r) := by
  unfold State.groupAConverted
  refine State.Safely.trans ?_ (.of_stations (State.stationConverted_frame _ _) (State.stationConverted_calm _ _))
  exact .of_same rfl rfl rfl rfl rfl

end Passes

/-! ### The line (R166 to R176) -/

section Line

variable {s : State} {n : StationNo}

/-- A station at a STOP no longer runs, whether its attempt was pierced or not (R45, R46). -/
theorem State.abort_ended (s : State) (n : StationNo) (c : EndCause) : ((s.abort n c).station n).state.running = false := by
  have hweigh (t : State) (ht : (t.station n).state = .abortWeighing) : ((t.judgeRings n).station n).state.running = false := by
    refine Bool.eq_false_iff.mpr fun hr => ?_
    have h := (t.judgeRings_calm n n).1 hr
    rw [ht] at h
    cases h
  unfold State.abort
  split
  · rw [State.enterAbortWeighing_eq]
    exact hweigh _ (by rw [State.modStation_station, if_pos rfl]; rfl)
  · rw [State.enterAwait_eq, State.modStation_station, if_pos rfl, Station.awaiting]
    split <;> rfl

/-- A STOP at a fitted station leaves it in no running state; an unfitted one is IDLE. -/
theorem State.stationStop_ended (h : s.fitted n = false → (s.station n).state = .idle) :
    ((s.stationStop n).station n).state.running = false := by
  unfold State.stationStop
  split
  · exact s.abort_ended n .stop
  case isFalse hr =>
    cases hf : s.fitted n with
    | false => rw [h hf]; rfl
    | true => simpa [hf] using hr

theorem State.stationStop_calm (s : State) (n : StationNo) : s.CalmTo (s.stationStop n) := by
  unfold State.stationStop
  split
  case isTrue hr => exact State.abort_calm (by simp only [Bool.and_eq_true] at hr; exact hr.2) _
  case isFalse => exact .refl s

/-- A STOP handed to stations one after another (R171). -/
theorem State.stationStops_frame (l : List StationNo) (s : State) : StationFrame s (l.foldl State.stationStop s) :=
  foldl_frame StationFrame.refl StationFrame.trans State.stationStop_frame l s

theorem State.stationStops_calm (l : List StationNo) (s : State) : s.CalmTo (l.foldl State.stationStop s) :=
  foldl_frame State.CalmTo.refl State.CalmTo.trans State.stationStop_calm l s

theorem StationFrame.fitted {t : State} (h : StationFrame s t) : t.fitted = s.fitted := by
  unfold State.fitted State.fittedCount
  rw [h]

theorem State.stationStops_ended {l : List StationNo} (hn : n ∈ l) (h : s.fitted n = false → (s.station n).state = .idle) :
    ((l.foldl State.stationStop s).station n).state.running = false := by
  induction l generalizing s with
  | nil => cases hn
  | cons m l ih =>
    rw [List.foldl_cons]
    rcases List.mem_cons.mp hn with rfl | hn
    · refine Bool.eq_false_iff.mpr fun hr => ?_
      have hrun := (State.stationStops_calm l (s.stationStop n) n).1 hr
      rw [State.stationStop_ended h] at hrun
      cases hrun
    · refine ih hn fun hf => (s.stationStop_calm m n).2 (h ?_)
      rwa [(s.stationStop_frame m).fitted] at hf

/-- The state at a STOP before the Feeder takes it: the line is in STOP, the stations have taken theirs (R171). -/
def State.stationsStopped (s : State) : State :=
  (List.finRange 4).foldl State.stationStop { s with line := { s.line with state := .stop } }

theorem State.enterStop_eq (s : State) : s.enterStop = (s.stationsStopped.feederHalt .stop).judgePermit := rfl

theorem State.enterStop_haltFrame (s : State) : HaltFrame s.stationsStopped s.enterStop :=
  (s.stationsStopped.feederHalt_frame .stop).trans (State.judgePermit_frame _).halt

/-- Entry to STOP: the gate is off, and no station runs (R45, R79, R171). -/
theorem State.enterStop_safely (s : State) : s.Safely s.enterStop := by
  have hframe := s.enterStop_haltFrame
  have hstops : StationFrame { s with line := { s.line with state := .stop } } s.stationsStopped := State.stationStops_frame _ _
  have hst : s.enterStop.station = s.stationsStopped.station := by
    unfold State.station
    rw [hframe]
  have hfit : s.enterStop.fitted = s.fitted := by
    unfold State.fitted State.fittedCount
    rw [hframe, hstops]
  refine ⟨fun _ => (s.stationsStopped.feederHalt_gateLaw .stop).judgePermit, fun h => ?_⟩
  rw [State.stopLaw_iff] at h ⊢
  rw [hst, hfit]
  refine fun m => ⟨fun hm => ?_, fun _ => State.stationStops_ended (List.mem_finRange m) (h m).1⟩
  exact (State.stationStops_calm (List.finRange 4) { s with line := { s.line with state := .stop } } m).2 ((h m).1 hm)

theorem State.stopLine_safely (s : State) : s.Safely s.stopLine := by
  unfold State.stopLine
  split
  · exact .refl s
  · exact s.enterStop_safely

theorem State.emergencyOn_safely (s : State) : s.Safely s.emergencyOn := by
  unfold State.emergencyOn State.emergencyEvent
  simp only
  split
  · exact .of_same rfl rfl rfl rfl rfl
  · refine State.Safely.trans ?_ (State.stopLine_safely _)
    exact .of_same rfl rfl rfl rfl rfl

/-- Entry to RUN or HOLD (R167, R168, R172). -/
theorem State.setLine_safely {l : LineState} (hl : l ≠ .stop ∧ l ≠ .initial) (s : State) : s.Safely (s.setLine l) := by
  refine State.Safely.trans (t := { s with line := { s.line with state := l } })
    ⟨fun h => h.of_same rfl rfl, fun h => ?_⟩ (State.judgePermit_safely _)
  rw [State.stopLaw_iff] at h ⊢
  exact fun m => ⟨(h m).1, fun hm => by rcases hm with hm | hm; exacts [absurd hm hl.1, absurd hm hl.2]⟩

/-- CLEAR LINE finds every station IDLE or FAULTED, and leaves them IDLE (R54, R175). -/
theorem State.clearLine_safely (hc : s.clearable = true) : s.Safely s.clearLine := by
  obtain ⟨hst, -⟩ := s.clearable_iff.mp hc
  refine ⟨fun h => h.of_same rfl rfl, fun h => ?_⟩
  rw [State.stopLaw_iff] at h ⊢
  have hidle (m : StationNo) : (s.clearLine.station m).state = .idle := by
    have hm : (s.station m).state = .idle ∨ (s.station m).state = .faulted := by
      cases hf : s.fitted m with
      | false => exact .inl ((h m).1 hf)
      | true => exact hst m hf
    rw [State.clearLine_station]
    rcases hm with hm | hm <;> simp [Station.clear, hm]
  exact fun m => ⟨fun _ => hidle m, fun _ => by rw [hidle m]; rfl⟩

/-- After a device reset the gate is off and every station IDLE (R177). -/
theorem State.deviceReset_safely (s : State) (a : BitVec 5) (f x : Bool) : s.Safely (s.deviceReset a f x) := by
  refine ⟨fun _ => State.gateLaw_of_closed ⟨nofun, nofun⟩, fun _ => (State.stopLaw_iff _).mpr fun m => ?_⟩
  have hst : (s.deviceReset a f x).station m = stationReset := by
    simp [State.station, State.deviceReset, State.fresh]
  rw [hst]
  exact ⟨fun _ => rfl, fun _ => rfl⟩

theorem State.itemEffect_safely (s : State) (i : Item) : s.Safely (s.itemEffect i) := by
  unfold State.itemEffect
  split
  · unfold State.newPeriod
    split
    · exact .refl s
    · split
      · exact .of_same rfl rfl rfl rfl rfl
      · exact .of_same rfl rfl rfl rfl rfl
  · split
    · exact .of_same rfl rfl rfl rfl rfl
    · split
      · exact .of_same rfl rfl rfl rfl rfl
      · split
        · exact s.feederPass_safely
        · exact .refl s

end Line

/-! ### The owners of the requests (R184) -/

/-- An owner whose answer keeps both laws. -/
def SafeOwner (owner : State → State × Answer) : Prop := ∀ s : State, s.Safely (owner s).1

section Owners

variable {owner : State → State × Answer}

theorem Acts.safe {Q : State → State → Prop} (h : Acts owner Q) (hQ : ∀ s t, Q s t → s.Safely t) : SafeOwner owner := by
  intro s
  rcases h s with ⟨he, -⟩ | ⟨-, hq⟩
  · rw [he]; exact .refl s
  · exact hQ s _ hq

theorem Acts.safe_reads (h : Acts owner fun s t => t = s) : SafeOwner owner := h.safe fun s _ ht => ht ▸ .refl s

theorem CloseFrame.safely {s t : State} (h : CloseFrame s t) : s.Safely t := h.tick.safely

theorem ansAdmit_safe (id : Word) (dc : Byte) (c : Word) (fcc fac : Byte) : SafeOwner (ansAdmit id dc c fcc fac) := by
  refine (ansAdmit_acts id dc c fcc fac).safe ?_
  rintro s t ⟨i, d, fc, fa, -, -, -, rfl⟩
  exact .of_same rfl rfl rfl rfl rfl

theorem ansWithdraw_safe (id : Word) : SafeOwner (ansWithdraw id) := by
  refine (ansWithdraw_acts id).safe ?_
  rintro s t ⟨i, r, -, -, rfl⟩
  have hclose : s.Safely ((s.modRecord i fun r => { r with foamVerdict := some .notShredded }).closeSlot i) :=
    CloseFrame.safely (CloseFrame.trans (t := s.modRecord i _) rfl (State.closeSlot_frame _ i))
  unfold State.withdrawSlot
  simp only
  split
  · exact hclose.trans (State.judgePermit_safely _)
  · exact hclose

theorem ansRelease_safe (id : Word) : SafeOwner (ansRelease id) := by
  refine (ansRelease_acts id).safe ?_
  rintro s t ⟨i, r, -, -, rfl⟩
  exact .of_halt (GateFrame.trans (t := s.release i) rfl (State.judgeIdle_frame _)).halt
    fun h => State.gateLaw.judgeIdle (h.of_same rfl rfl)

theorem ansTakeClosed_safe (tag : Byte) : SafeOwner (ansTakeClosed tag) := by
  refine (ansTakeClosed_acts tag).safe ?_
  rintro s t (rfl | rfl)
  · exact .refl _
  · exact .of_same rfl rfl rfl rfl rfl

theorem ansBegin_safe (id : Word) (station : Byte) : SafeOwner (ansBegin id station) := by
  intro s
  unfold ansBegin
  split
  · exact .refl s
  split
  · exact .refl s
  split
  · exact .refl s
  case h_2 hc =>
    obtain ⟨hl, hf, -⟩ := State.beginCheck_ok hc
    exact State.beginAttempt_safely hl hf

theorem ansAbort_safe (station : Byte) : SafeOwner (ansAbort station) := by
  refine (ansAbort_acts station).safe ?_
  rintro s t ⟨n, -, hr, rfl⟩
  exact State.abort_safely hr _

theorem ansWaive_safe (id : Word) : SafeOwner (ansWaive id) := by
  refine (ansWaive_acts id).safe ?_
  rintro s t ⟨i, r, -, -, rfl⟩
  exact .of_same rfl rfl rfl rfl rfl

theorem ansClearStation_safe (station : Byte) : SafeOwner (ansClearStation station) := by
  refine (ansClearStation_acts station).safe ?_
  rintro s t ⟨n, -, hs, rfl⟩
  refine .of_stations (StationFrame.trans (t := s.modStation n _) rfl (State.enterAwait_frame _ n)) ?_
  refine State.CalmTo.trans ?_ (State.enterAwait_calm ?_)
  · exact State.modStation_calm_same fun _ => rfl
  · rw [State.modStation_station, if_pos rfl, hs]
    exact nofun

theorem ansReceiverChanged_safe (station : Byte) : SafeOwner (ansReceiverChanged station) := by
  refine (ansReceiverChanged_acts station).safe ?_
  rintro s t ⟨n, -, -, rfl⟩
  refine .of_stations rfl ?_
  exact State.modStation_calm_same fun _ => rfl

theorem ansReadStation_safe (station : Byte) : SafeOwner (ansReadStation station) :=
  (ansReadStation_acts station).safe fun s _ ⟨_, _, ht⟩ => ht ▸ .refl s

theorem ansFeedClear_safe : SafeOwner ansFeedClear := by
  refine ansFeedClear_acts.safe ?_
  rintro s t ⟨-, rfl⟩
  refine .of_halt (GateFrame.trans ?_ (State.freeJam_frame _)).halt fun _ => State.feederToIdle_gateLaw _
  split
  · exact s.feedEvent_frame _ _
  · exact .refl s

theorem ansFeedReturn_safe : SafeOwner ansFeedReturn := by
  refine ansFeedReturn_acts.safe ?_
  rintro s t ⟨-, rfl⟩
  exact .of_halt (s.returnToHead_frame.trans (State.freeJam_frame _)).halt fun _ => State.feederToIdle_gateLaw _

theorem ansTripReset_safe : SafeOwner ansTripReset := by
  refine ansTripReset_acts.safe ?_
  rintro s t ⟨-, rfl⟩
  exact State.Safely.trans (t := s.recover) (.of_gate rfl rfl rfl fun _ => State.gateLaw_of_untripped nofun)
    (State.judgePermit_safely _)

theorem ansSetConfig_safe (item : Byte) (value : Word) : SafeOwner (ansSetConfig item value) := by
  refine (ansSetConfig_acts item value).safe ?_
  rintro s t ⟨i, v, rfl⟩
  exact State.Safely.trans (t := s.setItem i v) (.of_same rfl rfl rfl rfl rfl) (State.itemEffect_safely _ i)

theorem ansSetChannel_safe (c : Byte) (z sp lo hi bd : Word) : SafeOwner (ansSetChannel c z sp lo hi bd) := by
  refine (ansSetChannel_acts c z sp lo hi bd).safe ?_
  rintro s t ⟨c, f, rfl⟩
  exact .of_same rfl rfl rfl rfl rfl

theorem ansDrainBegin_safe : SafeOwner ansDrainBegin :=
  ansDrainBegin_acts.safe fun _ _ ⟨_, ht⟩ => ht ▸ .of_same rfl rfl rfl rfl rfl

theorem ansDrainEnd_safe : SafeOwner ansDrainEnd :=
  ansDrainEnd_acts.safe fun _ _ ⟨_, ht⟩ => ht ▸ .of_same rfl rfl rfl rfl rfl

theorem ansHoldOn_safe : SafeOwner ansHoldOn := ansHoldOn_acts.safe fun _ _ ht => ht ▸ .of_same rfl rfl rfl rfl rfl

theorem ansHoldOff_safe : SafeOwner ansHoldOff := ansHoldOff_acts.safe fun _ _ ht => ht ▸ .of_same rfl rfl rfl rfl rfl

theorem ansSetSource_safe (i l : Byte) : SafeOwner (ansSetSource i l) :=
  (ansSetSource_acts i l).safe fun _ _ ⟨_, ht⟩ => ht ▸ .of_same rfl rfl rfl rfl rfl

theorem ansSetMask_safe (m a : Byte) : SafeOwner (ansSetMask m a) :=
  (ansSetMask_acts m a).safe fun _ _ ⟨_, ht⟩ => ht ▸ .of_same rfl rfl rfl rfl rfl

theorem ansTakeNotices_safe (tag : Byte) : SafeOwner (ansTakeNotices tag) :=
  (ansTakeNotices_acts tag).safe fun _ _ ⟨_, ht⟩ => ht ▸ .of_same rfl rfl rfl rfl rfl

theorem ansClearTotals_safe : SafeOwner ansClearTotals :=
  ansClearTotals_acts.safe fun _ _ ht => ht ▸ .of_same rfl rfl rfl rfl rfl

theorem ansLineRun_safe : SafeOwner ansLineRun :=
  ansLineRun_acts.safe fun s _ ht => ht ▸ State.setLine_safely (by decide) s

theorem ansLineHold_safe : SafeOwner ansLineHold :=
  ansLineHold_acts.safe fun s _ ht => ht ▸ State.setLine_safely (by decide) s

theorem ansLineStop_safe : SafeOwner ansLineStop := ansLineStop_acts.safe fun s _ ht => ht ▸ s.stopLine_safely

theorem ansLineResume_safe : SafeOwner ansLineResume :=
  ansLineResume_acts.safe fun s _ ht => ht ▸ State.setLine_safely (by decide) s

theorem ansClearLine_safe : SafeOwner ansClearLine :=
  ansClearLine_acts.safe fun _ _ ⟨hc, ht⟩ => ht ▸ State.clearLine_safely hc

/-- The owner of every Kind keeps both laws (R184). -/
theorem answerKind_safe (kind tag : Byte) (b : List Byte) : SafeOwner (answerKind kind tag b) := by
  unfold answerKind
  split
  case h_1 => exact ansAdmit_safe _ _ _ _ _
  case h_2 => exact (ansQuery_acts _ _).safe_reads
  case h_3 => exact ansListTable_acts.safe_reads
  case h_4 => exact ansWithdraw_safe _
  case h_5 => exact ansRelease_safe _
  case h_6 => exact ansTakeClosed_safe _
  case h_7 => exact ansBegin_safe _ _
  case h_8 => exact ansAbort_safe _
  case h_9 => exact ansWaive_safe _
  case h_10 => exact ansClearStation_safe _
  case h_11 => exact ansReceiverChanged_safe _
  case h_12 => exact ansReadStation_safe _
  case h_13 => exact ansFeedClear_safe
  case h_14 => exact ansFeedReturn_safe
  case h_15 => exact ansHoldOn_safe
  case h_16 => exact ansHoldOff_safe
  case h_17 => exact ansTripReset_safe
  case h_18 => exact ansDrainBegin_safe
  case h_19 => exact ansDrainEnd_safe
  case h_20 => exact ansSetConfig_safe _ _
  case h_21 => exact ansReadConfig_acts.safe_reads
  case h_22 => exact ansSetChannel_safe _ _ _ _ _ _
  case h_23 => exact (ansReadChannel_acts _).safe_reads
  case h_24 => exact ansSetSource_safe _ _
  case h_25 => exact ansSetMask_safe _ _
  case h_26 => exact ansTakeNotices_safe _
  case h_27 => exact ansReadStatus_acts.safe_reads
  case h_28 => exact ansReadTotals_acts.safe_reads
  case h_29 => exact ansClearTotals_safe
  case h_30 => exact ansLineRun_safe
  case h_31 => exact ansLineHold_safe
  case h_32 => exact ansLineStop_safe
  case h_33 => exact ansLineResume_safe
  case h_34 => exact ansClearLine_safe
  case h_35 => exact badKind_acts.safe_reads

/-! ### The serial line (R179 to R186) -/

variable {s : State}

theorem State.link_safely (s : State) (l : Link) : s.Safely { s with link := l } := .of_same rfl rfl rfl rfl rfl

theorem State.takeRequest_safely (s : State) (ho : SafeOwner owner) (k g : Byte) : s.Safely (s.takeRequest k g owner) :=
  ((s.link_safely _).trans (ho _)).trans (State.link_safely _ _)

theorem State.request_safely (s : State) (ho : SafeOwner owner) (k g : Byte) : s.Safely (s.request k g owner) := by
  unfold State.request
  split
  · exact .refl s
  · exact s.takeRequest_safely ho k g

theorem State.takeBroadcast_safely (s : State) (ho : SafeOwner owner) : s.Safely (s.takeBroadcast owner) :=
  (s.link_safely _).trans (ho _)

theorem State.broadcast_safely (s : State) (ho : SafeOwner owner) : s.Safely (s.broadcast owner) := by
  unfold State.broadcast
  split
  · exact .refl s
  · exact s.takeBroadcast_safely ho

theorem State.goodFrame_safely (s : State) (k g : Byte) (b : List Byte) : s.Safely (s.goodFrame k g b) := by
  have hframe : SafeOwner (answerFrame k g b) := by
    unfold answerFrame
    split
    · exact badKind_acts.safe_reads
    · split
      · exact answerKind_safe k g b
      · exact (ansBadLength_acts k).safe_reads
  unfold State.goodFrame
  split
  · split
    · exact s.takeBroadcast_safely (answerKind_safe k g b)
    · exact s.link_safely _
  · exact s.takeRequest_safely hframe k g

theorem State.checkError_safely (s : State) (c : CheckCause) : s.Safely (s.checkError c) := by
  unfold State.checkError
  split
  · exact .of_same rfl rfl rfl rfl rfl
  · exact .refl s

theorem State.heardAddress_safely (s : State) (a : Byte) : s.Safely (s.heardAddress a) := by
  unfold State.heardAddress
  split
  · exact .refl s
  · exact s.link_safely _
  · exact s.link_safely _
  · exact .of_same rfl rfl rfl rfl rfl

theorem State.heardChar_safely (s : State) (c : Byte) : s.Safely (s.heardChar c) := by
  unfold State.heardChar
  split
  case isFalse => exact .refl s
  split
  · split
    · exact s.checkError_safely _
    · exact s.link_safely _
  split
  · exact s.link_safely _
  split
  · exact s.link_safely _
  · unfold State.frameComplete
    split
    · exact s.goodFrame_safely _ _ _
    · exact s.checkError_safely _

theorem State.framingError_safely (s : State) : s.Safely s.framingError := by
  unfold State.framingError
  split
  · exact .refl s
  · exact .of_same rfl rfl rfl rfl rfl

theorem State.gapError_safely (s : State) : s.Safely s.gapError := by
  unfold State.gapError
  split
  · exact .of_same rfl rfl rfl rfl rfl
  · exact .refl s

theorem State.startReply_safely (s : State) : s.Safely s.startReply := by
  unfold State.startReply
  split
  · exact .refl s
  · split
    · exact s.link_safely _
    · exact .refl s

theorem State.endReply_safely (s : State) : s.Safely s.endReply := by
  unfold State.endReply
  split
  · exact s.link_safely _
  · exact .refl s

end Owners

/-! ### Every command and every step -/

/-- The timing unit's events and the idle step leave what the laws read. -/
theorem State.timing_safely (s : State) : s.Safely s.flowEdge ∧ s.Safely s.periodExpired ∧ s.Safely s.pwmPeriodEnded
    ∧ s.Safely s.onTimeEnded ∧ s.Safely s.idle := by
  refine ⟨.of_same rfl rfl rfl rfl rfl, ?_, ?_, ?_, ?_⟩
  · unfold State.periodExpired
    split
    · exact .of_same rfl rfl rfl rfl rfl
    · exact .refl s
  · unfold State.pwmPeriodEnded
    split
    · exact .of_same rfl rfl rfl rfl rfl
    · exact .refl s
  · unfold State.onTimeEnded
    split
    · exact .of_same rfl rfl rfl rfl rfl
    · exact .refl s
  · unfold State.idle
    split
    · exact .of_same rfl rfl rfl rfl rfl
    · exact .of_same rfl rfl rfl rfl rfl

/-- Every command keeps both laws. -/
theorem exec_safely (c : Instr) (s t : State) (ht : exec c s = .next t) : s.Safely t := by
  obtain ⟨hflow, hperiod, hpwm, hontime, -⟩ := s.timing_safely
  cases c
  case deviceReset => cases ht; exact s.deviceReset_safely _ _ _
  case admitAppliance => cases ht; exact s.request_safely (ansAdmit_safe _ _ _ _ _) _ _
  case queryAppliance => cases ht; exact s.request_safely (ansQuery_acts _ _).safe_reads _ _
  case listTable => cases ht; exact s.request_safely ansListTable_acts.safe_reads _ _
  case withdraw => cases ht; exact s.request_safely (ansWithdraw_safe _) _ _
  case releaseToShred => cases ht; exact s.request_safely (ansRelease_safe _) _ _
  case takeClosed => cases ht; exact s.request_safely (ansTakeClosed_safe _) _ _
  case beginExtraction => cases ht; exact s.request_safely (ansBegin_safe _ _) _ _
  case abortExtraction => cases ht; exact s.request_safely (ansAbort_safe _) _ _
  case waiveExtraction => cases ht; exact s.request_safely (ansWaive_safe _) _ _
  case clearStation => cases ht; exact s.request_safely (ansClearStation_safe _) _ _
  case receiverChanged => cases ht; exact s.request_safely (ansReceiverChanged_safe _) _ _
  case readStation => cases ht; exact s.request_safely (ansReadStation_safe _) _ _
  case feedClear => cases ht; exact s.request_safely ansFeedClear_safe _ _
  case feedReturn => cases ht; exact s.request_safely ansFeedReturn_safe _ _
  case inertHoldOn => cases ht; exact s.request_safely ansHoldOn_safe _ _
  case inertHoldOff => cases ht; exact s.request_safely ansHoldOff_safe _ _
  case tripReset => cases ht; exact s.request_safely ansTripReset_safe _ _
  case drainBegin => cases ht; exact s.request_safely ansDrainBegin_safe _ _
  case drainEnd => cases ht; exact s.request_safely ansDrainEnd_safe _ _
  case setConfig => cases ht; exact s.request_safely (ansSetConfig_safe _ _) _ _
  case readConfig => cases ht; exact s.request_safely ansReadConfig_acts.safe_reads _ _
  case setChannel => cases ht; exact s.request_safely (ansSetChannel_safe _ _ _ _ _ _) _ _
  case readChannel => cases ht; exact s.request_safely (ansReadChannel_acts _).safe_reads _ _
  case setSource => cases ht; exact s.request_safely (ansSetSource_safe _ _) _ _
  case setMask => cases ht; exact s.request_safely (ansSetMask_safe _ _) _ _
  case takeNotices => cases ht; exact s.request_safely (ansTakeNotices_safe _) _ _
  case readStatus => cases ht; exact s.request_safely ansReadStatus_acts.safe_reads _ _
  case readTotals => cases ht; exact s.request_safely ansReadTotals_acts.safe_reads _ _
  case clearTotals => cases ht; exact s.request_safely ansClearTotals_safe _ _
  case lineRun => cases ht; exact s.request_safely ansLineRun_safe _ _
  case lineHold tag b =>
    cases b <;> cases ht
    · exact s.request_safely ansLineHold_safe _ _
    · exact s.broadcast_safely ansLineHold_safe
  case lineStop tag b =>
    cases b <;> cases ht
    · exact s.request_safely ansLineStop_safe _ _
    · exact s.broadcast_safely ansLineStop_safe
  case lineResume => cases ht; exact s.request_safely ansLineResume_safe _ _
  case clearLine => cases ht; exact s.request_safely ansClearLine_safe _ _
  case badKind =>
    cases ht
    split
    · exact .refl s
    · exact s.request_safely badKind_acts.safe_reads _ _
  case broadcastIgnored =>
    cases ht
    split
    · exact .refl s
    · exact s.link_safely _
  case addressCharacter => cases ht; exact s.heardAddress_safely _
  case framing => cases ht; exact s.framingError_safely
  case gap => cases ht; exact s.gapError_safely
  case check => cases ht; exact s.checkError_safely _
  case replyStart => cases ht; exact s.startReply_safely
  case replyEnd => cases ht; exact s.endReply_safely
  case clampClosedTrue n => cases ht; exact s.clampClosed_safely n
  case clampOpened n => cases ht; exact s.clampOpen_safely n
  case clampTimeout n => cases ht; exact .of_expiry rfl fun h => State.faultUnpierced_safely h _
  case scaleUnsettled n => cases ht; exact .of_expiry rfl fun h => State.faultUnpierced_safely h _
  case tPierceExpiry n => cases ht; exact s.pierceExpired_safely n
  case probe n p => cases ht; exact s.probeExpired_safely n p
  case tEvacExpiry n p => cases ht; exact s.evacExpired_safely n p
  case tRiseExpiry n => cases ht; exact s.riseExpired_safely n
  case tDrainExpiry n => cases ht; exact s.drainExpired_safely n
  case weighingSettleTimeout n => cases ht; exact s.settleExpired_safely n
  case gateClosedFalse => cases ht; exact s.gateOpened_safely
  case gateClosedTrue => cases ht; exact s.gateShut_safely
  case tOpenExpiry => cases ht; exact s.openExpired_safely
  case tPassExpiry => cases ht; exact s.passExpired_safely
  case tCloseExpiry => cases ht; exact s.closeExpired_safely
  case feedCapture => cases ht; exact s.beamCleared_safely
  case shredderRunningChange b => cases ht; exact s.shredderRuns_safely b
  case emergencyStopAsserted => cases ht; exact s.emergencyOn_safely
  case emergencyStopReleased => cases ht; exact .of_same rfl rfl rfl rfl rfl
  case flowEdge => cases ht; exact hflow
  case atmospherePeriodExpiry => cases ht; exact hperiod
  case groupAConversion r => cases ht; exact s.groupAConverted_safely r
  case groupBPassCompletion raw first a => cases ht; exact s.passCompleted_safely raw first a
  case attributionTick => cases ht; exact s.tickStep_safely
  case pwmPeriodEnd => cases ht; exact hpwm
  case characterWithoutMark c => cases ht; exact s.heardChar_safely c
  case purgeOnTimeEnd => cases ht; exact hontime

theorem step_safely (s t : State) (ht : step s = .next t) : s.Safely t := by
  unfold step at ht
  split at ht
  · cases ht
    obtain ⟨-, -, -, -, hidle⟩ := s.timing_safely
    exact hidle
  case h_2 rest _ =>
    exact State.Safely.trans (t := { s with pending := rest }) (.of_same rfl rfl rfl rfl rfl) (exec_safely _ _ t ht)

/-- Settles O9: the gate goes on by a permit alone, which TRIPPED refuses; a station begins to run by BEGIN EXTRACTION alone,
in RUN and fitted; and a STOP ends what runs. -/
theorem gateAndStopLawsKept : Obligations.GateAndStopLawsKept :=
  ⟨fun s t h ht => (step_safely s t ht).gate h, fun s t h ht => (step_safely s t ht).stop h⟩

end Sys2Proof.Machine
end

section
/-! The weighing step and the tables it reads (`Obligations.MassTables`, `Obligations.ChannelLaws`, `Obligations.WeighingStep`). -/

namespace Sys2Proof.Machine

/-! ### Rings (R55, R56, R129, R130) -/

theorem ringSum_eq (l : List Int) : ringSum l = l.sum := by rw [ringSum, ← List.sum_eq_foldl]

theorem foldl_max_le_iff (l : List Int) (a b : Int) : l.foldl max a ≤ b ↔ a ≤ b ∧ ∀ u ∈ l, u ≤ b := by
  induction l generalizing a with
  | nil => simp
  | cons x l ih => simp [ih, and_assoc]

theorem le_foldl_min_iff (l : List Int) (a b : Int) : b ≤ l.foldl min a ↔ b ≤ a ∧ ∀ v ∈ l, b ≤ v := by
  induction l generalizing a with
  | nil => simp
  | cons x l ih => simp [ih, and_assoc]

/-- The spread of a ring is within a band where no two of its values are further apart (R130). -/
theorem ringSpread_le_iff {l : List Int} (hl : l ≠ []) (d : Int) : ringSpread l ≤ d ↔ ∀ u ∈ l, ∀ v ∈ l, u - v ≤ d := by
  cases l with
  | nil => exact absurd rfl hl
  | cons x l =>
    have hmax : ringSpread (x :: l) ≤ d ↔ l.foldl max x ≤ d + l.foldl min x := by
      rw [ringSpread]; omega
    have hmin (u : Int) : u ≤ d + l.foldl min x ↔ ∀ v ∈ x :: l, u - v ≤ d := by
      have h := le_foldl_min_iff l x (u - d)
      rw [← List.forall_mem_cons (p := fun v => u - d ≤ v)] at h
      rw [show u ≤ d + l.foldl min x ↔ u - d ≤ l.foldl min x by omega, h]
      exact forall₂_congr fun v _ => by omega
    rw [hmax, foldl_max_le_iff, ← List.forall_mem_cons (p := fun u => u ≤ d + l.foldl min x)]
    exact forall₂_congr fun u _ => hmin u

theorem Channel.settled_iff (c : Channel) : c.settled = true ↔
    c.status = .ok ∧ c.ring.length = 8 ∧ ∀ u ∈ c.ring, ∀ v ∈ c.ring, u - v ≤ (c.band : Int) := by
  simp only [Channel.settled, Bool.and_eq_true, beq_iff_eq, decide_eq_true_eq, and_assoc]
  refine and_congr_right' (and_congr_right fun h8 => ringSpread_le_iff ?_ _)
  rintro h0
  simp [h0] at h8

theorem Channel.settledValue_bounds (c : Channel) :
    8 * c.settledValue ≤ c.ring.sum + 4 ∧ c.ring.sum + 4 < 8 * c.settledValue + 8 := by
  rw [Channel.settledValue, ringSum_eq]
  omega

/-! ### Conversions (R126 to R129) -/

theorem Channel.faulted_iff (c : Channel) : c.faulted = true ↔ c.status = .faultLow ∨ c.status = .faultHigh := by
  simp [Channel.faulted]

/-- A ring of nine values loses the oldest (R129). -/
theorem ringPush_eq (l : List Int) (v : Int) : ringPush l v = (if l.length < 8 then l else l.drop 1) ++ [v] := by
  rw [ringPush, List.drop_one]
  split <;> rfl

/-- The nearest integer to a scaled reading is the only one within half a unit of it (R126). -/
theorem Channel.scaled_eq {c : Channel} {r : Raw} {x : Int} (h1 : 65535 * (x - c.zero) ≤ r.toNat * c.span + 32767)
    (h2 : r.toNat * c.span + 32767 < 65535 * (x - c.zero + 1)) :
    c.scaled r = if x < c.low then c.low else if c.high < x then c.high else x := by
  have hx : c.zero + (r.toNat * c.span + 32767) / 65535 = x := by omega
  rw [Channel.scaled, hx]
  rfl

theorem Channel.convert_low (c : Channel) {r : Raw} (h : r.toNat = 0) :
    c.convert r = { c with raw := some r, status := .faultLow } := by
  have hr : r = 0 := BitVec.eq_of_toNat_eq h
  rw [Channel.convert, if_pos hr]

theorem Channel.convert_high (c : Channel) {r : Raw} (h : r.toNat = 65535) :
    c.convert r = { c with raw := some r, status := .faultHigh } := by
  have hr : r = 65535 := BitVec.eq_of_toNat_eq h
  have h0 : r ≠ 0 := by rintro rfl; cases h
  rw [Channel.convert, if_neg h0, if_pos hr]

theorem Channel.convert_good (c : Channel) {r : Raw} (h1 : 1 ≤ r.toNat) (h2 : r.toNat ≤ 65534) : c.convert r = { c with
    raw := some r, status := .ok, value := c.scaled r
    ring := ringPush (if c.faulted then [] else c.ring) (c.scaled r) } := by
  have h0 : r ≠ 0 := by rintro rfl; cases h1
  have hmax : r ≠ 65535 := by rintro rfl; exact absurd h2 (by decide)
  rw [Channel.convert, if_neg h0, if_neg hmax]

theorem State.ringsSettled_iff (s : State) (n : StationNo) : s.ringsSettled n = true ↔
    (s.channel (scaleChannel n)).settled = true ∧ (s.channel (cupChannel n)).settled = true := by
  rw [State.ringsSettled, Bool.and_eq_true]

/-- Settles O36: the ring's laws from its sum and its extremes, the conversion by the raw reading. -/
theorem channelLaws : Obligations.ChannelLaws := by
  refine ⟨⟨Channel.settled_iff, Channel.settledValue_bounds, State.ringsSettled_iff⟩, fun c r => ⟨c.convert_low, c.convert_high,
    fun h1 h2 x v old hlo hhi hv hold => ?_⟩⟩
  have hscaled : c.scaled r = v := hv ▸ Channel.scaled_eq hlo hhi
  have hold : (if c.faulted then [] else c.ring) = old := by
    rw [hold]
    exact if_congr c.faulted_iff rfl rfl
  rw [c.convert_good h1 h2, hscaled, hold, ringPush_eq]

/-! ### The mass tables (R52, R56, R61, R64) -/

theorem satAdd_eq (max x n : Nat) : satAdd max x n = min max (x + n) := by
  unfold satAdd
  split <;> omega

theorem Channel.finalReading_settled {c : Channel} (h : c.settled = true) : c.finalReading = c.settledValue := if_pos h

theorem Channel.finalReading_empty {c : Channel} (h : c.settled = false) (hr : c.ring = []) : c.finalReading = c.value := by
  simp [Channel.finalReading, h, hr]

/-- The reading of an unsettled ring is the mean of its values, rounded down (R56). -/
theorem Channel.finalReading_mean {c : Channel} (h : c.settled = false) (hr : c.ring ≠ []) :
    c.finalReading * c.ring.length ≤ c.ring.sum ∧ c.ring.sum < (c.finalReading + 1) * c.ring.length := by
  have hlen : (0 : Int) < c.ring.length := by
    exact_mod_cast List.length_pos_iff.mpr hr
  have hmean : c.finalReading = c.ring.sum / c.ring.length := by
    simp [Channel.finalReading, h, hr, ringSum_eq]
  rw [hmean]
  exact ⟨Int.ediv_mul_le _ hlen.ne', Int.lt_ediv_add_one_mul_self _ hlen⟩

theorem Receiver.credit_eq (rc : Receiver) (d : Nat) : rc.credit d = { rc with
    credited := min 4294967295 (rc.credited + d)
    count := if 0 < d then min 65535 (rc.count + 1) else rc.count } := by
  simp only [Receiver.credit, satAdd_eq, Config.max32, Config.max16]

theorem EndCause.any_isConflict_iff (cause : Option EndCause) :
    cause.any EndCause.isConflict = true ↔ cause = some .conflict ∨ cause = some .undetermined := by
  rcases cause with _ | _ | _ <;> simp [EndCause.isConflict]

section Gate

variable {rc : Receiver} {cause : Option EndCause} {cls : Declared} {d e : Nat}

/-- An extraction stopped for good spoils the receiver, where it gave anything (R52). -/
theorem Receiver.gate_stopped (h : cause = some .conflict ∨ cause = some .undetermined) :
    rc.gate cause cls d e = if e < d then { rc.credit d with contaminated := true } else rc := by
  rw [Receiver.gate, if_pos ((EndCause.any_isConflict_iff cause).mpr h)]

theorem Receiver.gate_same {g : Gas} (h : ¬(cause = some .conflict ∨ cause = some .undetermined)) (ha : rc.assigned = some g)
    (hc : cls = some g) : rc.gate cause cls d e = rc.credit d := by
  rw [← EndCause.any_isConflict_iff] at h
  simp [Receiver.gate, h, ha, hc]

theorem Receiver.gate_assign {g : Gas} (h : ¬(cause = some .conflict ∨ cause = some .undetermined)) (ha : rc.assigned = none)
    (hc : cls = some g) : rc.gate cause cls d e = { rc.credit d with assigned := some g } := by
  rw [← EndCause.any_isConflict_iff] at h
  simp [Receiver.gate, h, ha, hc]

theorem Receiver.gate_other (h : ¬(cause = some .conflict ∨ cause = some .undetermined))
    (ho : cls = none ∨ ∃ a g, rc.assigned = some a ∧ cls = some g ∧ a ≠ g) :
    rc.gate cause cls d e = if e < d then { rc.credit d with contaminated := true } else rc := by
  rw [← EndCause.any_isConflict_iff] at h
  rcases ho with rfl | ⟨a, g, ha, rfl, hne⟩
  · cases ha : rc.assigned <;> simp [Receiver.gate, h, ha]
  · simp [Receiver.gate, h, ha, hne]

end Gate

/-- Settles O43: each table row by row. -/
theorem massTables : Obligations.MassTables := by
  refine ⟨fun c => ⟨Channel.finalReading_settled, Channel.finalReading_empty, Channel.finalReading_mean⟩,
    fun rc credited cause cls d e hcred stopped hstop => ?_, fun mr c e rhoMin => ⟨fun h => ?_, fun h hc => ?_, fun h hc hr => ?_,
    fun h hc hr => ?_⟩⟩
  · rw [← Receiver.credit_eq] at hcred
    subst hcred
    rw [hstop]
    refine ⟨fun hs hlt => ?_, fun hs hle => ?_, fun hs g => Receiver.gate_same hs, fun hs ha g => Receiver.gate_assign hs ha,
      fun hs ho => ⟨fun hlt => ?_, fun hle => ?_⟩⟩
    · rw [Receiver.gate_stopped hs, if_pos hlt]
    · rw [Receiver.gate_stopped hs, if_neg (by omega)]
    · rw [Receiver.gate_other hs ho, if_pos hlt]
    · rw [Receiver.gate_other hs ho, if_neg (by omega)]
  · rw [massVerdict, if_pos h]
  · rw [massVerdict, if_neg (by omega), if_pos hc]
  · have hfull : rhoMin ≤ permille mr c := hr
    rw [massVerdict, if_neg (by omega), if_neg hc, if_pos hfull]
  · have hfew : permille mr c < rhoMin := hr
    rw [massVerdict, if_neg (by omega), if_neg hc, if_neg (by omega)]

/-! ### The end of an attempt (R41, R47, R62) -/

section Weigh

variable {s : State} {n : StationNo} {i : Slot} {r : Record}

/-- A record and a station changed, written out. -/
theorem State.modRecord_modStation_eq (hr : s.record i = some r) (f : Record → Record) (g : Station → Station) :
    (s.modRecord i f).modStation n g = { s with
      table := { s.table with slots := s.table.slots.set i (some (f r)) }
      stations := s.stations.set n (g (s.station n)) } := by
  rw [State.modRecord_eq hr]; rfl

/-- Changes of the same record and the same station join. -/
theorem State.modRecord_modStation_twice (hr : s.record i = some r) (f h : Record → Record) (g k : Station → Station) :
    (((s.modRecord i f).modStation n g).modRecord i h).modStation n k
      = (s.modRecord i fun r => h (f r)).modStation n fun x => k (g x) := by
  rw [State.modStation_modRecord, State.modRecord_modRecord hr, State.modStation_modStation]

theorem State.endAttempt_requeue (h : (s.station n).endCause = some .abort ∨ (s.station n).endCause = some .stop
      ∨ (s.station n).endCause = some .clampOpened) :
    s.endAttempt n i = (s.modRecord i Record.unbind).modStation n (Station.awaiting s.pins.clamp[n]) := by
  rcases h with h | h | h <;> rw [State.endAttempt, h] <;> rfl

theorem State.endAttempt_full (h : (s.station n).endCause = some .receiverFull) : s.endAttempt n i =
    ((s.modRecord i Record.unbind).modStation n (Station.faulted .receiverFull)).raise (srcStationFault n) (some i.val)
      (some (.fault .receiverFull)) := by
  rw [State.endAttempt, h]; rfl

/-- The end with a verdict: a conflict's, or that of the masses (R63, R64). -/
theorem State.endAttempt_verdict {v : Verdict} (hr : s.record i = some r) (h : (s.station n).endCause = none
        ∧ v = massVerdict r.mr r.charge (s.item iMEmpty) (s.item iRhoMin)
      ∨ v = .conflict ∧ ((s.station n).endCause = some .conflict ∨ (s.station n).endCause = some .undetermined)) :
    s.endAttempt n i = ((s.modRecord i fun r => r.extract v).modStation n (Station.awaiting s.pins.clamp[n])).raise
      (srcStationDone n) (some i.val) (some (.verdict v)) := by
  rcases h with ⟨h, rfl⟩ | ⟨rfl, h | h⟩ <;> rw [State.endAttempt, h]
  · simp only [hr]; rfl
  · rfl
  · rfl

/-! ### The weighing step (R59 to R62) -/

theorem Record.weighed_eq (r : Record) (a b : Nat) (neg uns : Bool) : r.weighed a b neg uns = { r with
    mr := min 40000 (r.mr + a), mo := min 40000 (r.mo + b)
    flags := { r.flags with
      unsettledFinal := r.flags.unsettledFinal || uns
      negativeClamped := r.flags.negativeClamped || neg
      massSaturated := r.flags.massSaturated || decide (40000 < r.mr + a ∨ 40000 < r.mo + b) } } := by
  simp only [Record.weighed, Record.flagIf, Flags.setIf, satAdd_eq]

theorem Record.gateClass_eq (r : Record) : r.gateClass = if r.measured = none then r.declared else r.measured := by
  cases h : r.measured <;> simp [Record.gateClass, h]

/-- A station with its final readings and its receiver gated (R52, R62). -/
def Station.weighed (wf ofl : Int) (rc : Receiver) (x : Station) : Station :=
  { x with finalReceiver := some wf, finalOil := some ofl, receiver := rc }

/-- The weighing step before the attempt ends: `q` is the record with its masses, `rc` the receiver gated. -/
theorem State.weigh_eq {wf ofl wt ot : Int} {unsettled : Bool} (hb : (s.station n).bound = some i) (hr : s.record i = some r)
    (hwt : (s.station n).tareReceiver = some wt) (hot : (s.station n).tareOil = some ot) : s.weigh n wf ofl unsettled =
      ((s.modRecord i fun _ => r.weighed (increment wf wt) (increment ofl ot) (decide (wf < wt ∨ ofl < ot)) unsettled).modStation n
        (Station.weighed wf ofl ((s.station n).receiver.gate (s.station n).endCause r.gateClass (increment wf wt)
          (s.item iMEmpty)))).endAttempt n i := by
  rw [State.weigh, hb]
  simp only [hr, hwt, hot, Option.getD_some]
  rw [State.modRecord_modStation_eq hr, State.modRecord_modStation_eq hr]
  rfl

/-- The weighing step that ends with a verdict (R62, R63). -/
theorem State.weigh_verdict {q : Record} {wf ofl wt ot : Int} {unsettled : Bool} {v : Verdict}
    (hb : (s.station n).bound = some i) (hr : s.record i = some r) (hwt : (s.station n).tareReceiver = some wt)
    (hot : (s.station n).tareOil = some ot)
    (hq : r.weighed (increment wf wt) (increment ofl ot) (decide (wf < wt ∨ ofl < ot)) unsettled = q)
    (h : (s.station n).endCause = none ∧ v = massVerdict q.mr q.charge (s.item iMEmpty) (s.item iRhoMin)
      ∨ v = .conflict ∧ ((s.station n).endCause = some .conflict ∨ (s.station n).endCause = some .undetermined)) :
    s.weigh n wf ofl unsettled = ((s.modRecord i fun _ => q.extract v).modStation n fun x =>
      (Station.weighed wf ofl ((s.station n).receiver.gate (s.station n).endCause r.gateClass (increment wf wt)
        (s.item iMEmpty)) x).awaiting s.pins.clamp[n]).raise (srcStationDone n) (some i.val) (some (.verdict v)) := by
  subst hq
  rw [State.weigh_eq hb hr hwt hot, State.endAttempt_verdict
    (r := r.weighed (increment wf wt) (increment ofl ot) (decide (wf < wt ∨ ofl < ot)) unsettled)
    (by simp [hr]) (by simpa [Station.weighed] using h), State.modRecord_modStation_twice hr]
  rfl

/-- The weighing step that returns the appliance (R41, R47). -/
theorem State.weigh_requeue {q : Record} {wf ofl wt ot : Int} {unsettled : Bool}
    (hb : (s.station n).bound = some i) (hr : s.record i = some r) (hwt : (s.station n).tareReceiver = some wt)
    (hot : (s.station n).tareOil = some ot)
    (hq : r.weighed (increment wf wt) (increment ofl ot) (decide (wf < wt ∨ ofl < ot)) unsettled = q)
    (h : (s.station n).endCause = some .abort ∨ (s.station n).endCause = some .stop
      ∨ (s.station n).endCause = some .clampOpened) :
    s.weigh n wf ofl unsettled = (s.modRecord i fun _ => q.unbind).modStation n fun x =>
      (Station.weighed wf ofl ((s.station n).receiver.gate (s.station n).endCause r.gateClass (increment wf wt)
        (s.item iMEmpty)) x).awaiting s.pins.clamp[n] := by
  subst hq
  rw [State.weigh_eq hb hr hwt hot, State.endAttempt_requeue (by simpa [Station.weighed] using h),
    State.modRecord_modStation_twice hr]
  rfl

/-- The weighing step at a full receiver, which faults the station (R37, R47, R48). -/
theorem State.weigh_full {q : Record} {wf ofl wt ot : Int} {unsettled : Bool}
    (hb : (s.station n).bound = some i) (hr : s.record i = some r) (hwt : (s.station n).tareReceiver = some wt)
    (hot : (s.station n).tareOil = some ot)
    (hq : r.weighed (increment wf wt) (increment ofl ot) (decide (wf < wt ∨ ofl < ot)) unsettled = q)
    (h : (s.station n).endCause = some .receiverFull) :
    s.weigh n wf ofl unsettled = ((s.modRecord i fun _ => q.unbind).modStation n fun x =>
      (Station.weighed wf ofl ((s.station n).receiver.gate (s.station n).endCause r.gateClass (increment wf wt)
        (s.item iMEmpty)) x).faulted .receiverFull).raise (srcStationFault n) (some i.val) (some (.fault .receiverFull)) := by
  subst hq
  rw [State.weigh_eq hb hr hwt hot, State.endAttempt_full (by simpa [Station.weighed] using h),
    State.modRecord_modStation_twice hr]

/-! ### The judgement of the rings (R32, R41, R47) -/

theorem State.judgeRings_unsettled (h : s.ringsSettled n = false) : s.judgeRings n = s := by rw [State.judgeRings, h]; rfl

theorem State.judgeRings_other (h : (s.station n).state ≠ .taring ∧ (s.station n).state ≠ .weighing
    ∧ (s.station n).state ≠ .abortWeighing) : s.judgeRings n = s := by
  obtain ⟨ht, hw, ha⟩ := h
  unfold State.judgeRings
  split
  · split
    case h_1 hs => exact absurd hs ht
    case h_2 hs => exact absurd hs hw
    case h_3 hs => exact absurd hs ha
    case h_4 => rfl
  · rfl

theorem State.judgeRings_weigh (h : s.ringsSettled n = true)
    (hs : (s.station n).state = .weighing ∨ (s.station n).state = .abortWeighing) : s.judgeRings n =
      s.weigh n (s.channel (scaleChannel n)).settledValue (s.channel (cupChannel n)).settledValue false := by
  rcases hs with hs | hs <;> rw [State.judgeRings, if_pos h, hs]

theorem State.judgeRings_pierce (h : s.ringsSettled n = true) (hs : (s.station n).state = .taring) :
    s.judgeRings n = s.enterPiercing n := by rw [State.judgeRings, if_pos h, hs]

theorem State.enterAbortWeighing_settled (h : s.ringsSettled n = true) (c : EndCause) : s.enterAbortWeighing n c =
    (s.modStation n (Station.abortWeighing c (after s.clock (s.item iTSettle)))).weigh n
      (s.channel (scaleChannel n)).settledValue (s.channel (cupChannel n)).settledValue false := by
  rw [State.enterAbortWeighing_eq]
  refine State.judgeRings_weigh ?_ (.inr ?_)
  · exact h
  · rw [State.modStation_station, if_pos rfl]; rfl

theorem State.enterAbortWeighing_unsettled (h : s.ringsSettled n = false) (c : EndCause) : s.enterAbortWeighing n c =
    s.modStation n (Station.abortWeighing c (after s.clock (s.item iTSettle))) := by
  rw [State.enterAbortWeighing_eq]
  refine State.judgeRings_unsettled ?_
  exact h

theorem State.settleExpired_due (hs : (s.station n).state = .weighing ∨ (s.station n).state = .abortWeighing)
    (hd : (s.station n).deadline = some s.clock) : s.settleExpired n =
      s.weigh n (s.channel (scaleChannel n)).finalReading (s.channel (cupChannel n)).finalReading (!s.ringsSettled n) := by
  have he : (s.expires n .weighing || s.expires n .abortWeighing) = true := by
    rcases hs with hs | hs <;> simp [State.expires_of hs hd]
  exact if_pos he

end Weigh

/-- Settles O42: the step by its end cause, then the judgements that take it. -/
theorem weighingStep : Obligations.WeighingStep := by
  refine ⟨fun s n i r q wf ofl wt ot unsettled x hb hr hwt hot hq hx => ?_, fun s n a b ha hb => ?_⟩
  · have hq' := (r.weighed_eq (increment wf wt) (increment ofl ot) (decide (wf < wt ∨ ofl < ot)) unsettled).trans hq.symm
    have hcharge : q.charge = r.charge := by rw [hq]
    rw [← Record.gateClass_eq] at hx
    subst hx
    refine ⟨fun v hv => ?_, fun hc => ?_, fun hc => ?_⟩
    · rw [State.weigh_verdict hb hr hwt hot hq' hv, State.modRecord_modStation_eq hr, Record.extract_eq, hcharge]
      rfl
    · rw [State.weigh_requeue hb hr hwt hot hq' hc, State.modRecord_modStation_eq hr]
      rfl
    · rw [State.weigh_full hb hr hwt hot hq' hc, State.modRecord_modStation_eq hr]
      rfl
  · subst ha hb
    refine ⟨fun hs => ⟨fun hd => congrArg _ (State.settleExpired_due hs hd), fun h => State.judgeRings_weigh h hs⟩,
      fun h c => State.enterAbortWeighing_settled h c, fun h hs i r hi hr => ?_, fun h => ?_⟩
    · rw [State.judgeRings_pierce h hs, State.enterPiercing_eq hi, State.modStation_modRecord,
        State.modRecord_modStation_eq hr]
      rfl
    · rcases h with h | h
      · exact State.judgeRings_unsettled h
      · exact State.judgeRings_other h

end Sys2Proof.Machine
end

section
/-! The expiries that lead an attempt on, and the entries they make (`Obligations.SequenceExpiries`). -/

namespace Sys2Proof.Machine

/-! ### The entries of the sequence (R34, R37, R39 to R41) -/

section Entries

variable {s : State} {n : StationNo}

/-- A station as EVACUATING takes it: its limits copied, no dwell (R28, R34). -/
def Station.evacuating (s : State) (n : StationNo) (probe : Option Time) (x : Station) : Station :=
  { x with
    state := .evacuating
    copyTarget := s.item iPTarget
    copyDwell := s.item iTDwell
    copyFill := s.item (iFill n)
    dwellStart := none
    probeDeadline := probe
    deadline := some (after s.clock (s.item iTEvac)) }

theorem State.judgeFill_under (h : (s.channel (scaleChannel n)).value < ((s.station n).copyFill : Int)) :
    s.judgeFill n = s := if_neg fun hf => absurd hf.2 (by omega)

theorem State.judgeFill_full (hs : (s.station n).state = .evacuating)
    (h : ((s.station n).copyFill : Int) ≤ (s.channel (scaleChannel n)).value) :
    s.judgeFill n = s.enterAbortWeighing n .receiverFull := if_pos ⟨hs, h⟩

theorem State.enterEvacuating_eq (s : State) (n : StationNo) (first : Bool) : s.enterEvacuating n first =
    (s.modStation n fun x => x.evacuating s n (if first then some (after s.clock (s.item iTProbe)) else x.probeDeadline)).judgeFill
      n := by
  unfold State.enterEvacuating State.enterTimed
  rw [State.modStation_modStation]
  rfl

theorem State.enterEvacuating_under {first : Bool} (h : (s.channel (scaleChannel n)).value < (s.item (iFill n) : Int)) :
    s.enterEvacuating n first = s.modStation n fun x =>
      x.evacuating s n (if first then some (after s.clock (s.item iTProbe)) else x.probeDeadline) := by
  rw [State.enterEvacuating_eq]
  refine State.judgeFill_under ?_
  rw [State.modStation_station, if_pos rfl]
  exact h

theorem State.enterEvacuating_full {first : Bool} (h : (s.item (iFill n) : Int) ≤ (s.channel (scaleChannel n)).value) :
    s.enterEvacuating n first = (s.modStation n fun x =>
      x.evacuating s n (if first then some (after s.clock (s.item iTProbe)) else x.probeDeadline)).enterAbortWeighing n
        .receiverFull := by
  rw [State.enterEvacuating_eq]
  refine State.judgeFill_full ?_ ?_ <;> rw [State.modStation_station, if_pos rfl]
  · rfl
  · exact h

theorem State.enterDraining_timed (h : s.item iTDrain ≠ 0) : s.enterDraining n = s.enterTimed n .drainingOil (s.item iTDrain) :=
  if_neg h

theorem State.enterDraining_past (h : s.item iTDrain = 0) : s.enterDraining n = s.enterWeighing n := if_pos h

/-- The entry to WEIGHING takes the weighing step at once where the rings are settled (R41). -/
theorem State.enterWeighing_unsettled (h : s.ringsSettled n = false) :
    s.enterWeighing n = s.enterTimed n .weighing (s.item iTSettle) := by
  refine State.judgeRings_unsettled (s := s.enterTimed n .weighing (s.item iTSettle)) ?_
  exact h

theorem State.enterWeighing_settled (h : s.ringsSettled n = true) : s.enterWeighing n =
    (s.enterTimed n .weighing (s.item iTSettle)).weigh n (s.channel (scaleChannel n)).settledValue
      (s.channel (cupChannel n)).settledValue false := by
  refine State.judgeRings_weigh (s := s.enterTimed n .weighing (s.item iTSettle)) ?_ (.inl ?_)
  · exact h
  · rw [State.enterTimed, State.modStation_station, if_pos rfl]

theorem State.riseExpired_due (hs : (s.station n).state = .riseTest) (hd : (s.station n).deadline = some s.clock) :
    s.riseExpired n = s.enterDraining n := if_pos (State.expires_of hs hd)

end Entries

/-- Settles O38: each expiry takes the entry it leads to. -/
theorem sequenceExpiries : Obligations.SequenceExpiries := by
  refine ⟨fun s n hd => ⟨fun hs t ht => ?_, fun hs hdrain => ?_, fun t ht => ⟨fun hs hdrain => ?_, fun hs => ?_, fun h => ?_,
    fun h => ?_⟩⟩, fun s n => ⟨fun t ht => ?_, fun hdrain => ?_, fun hdrain t ht => ?_⟩⟩
  · subst ht
    have hexp : s.pierceExpired n = s.enterEvacuating n true := if_pos (State.expires_of hs hd)
    exact ⟨fun h => congrArg _ (hexp.trans (State.enterEvacuating_under h)),
      fun h => congrArg _ (hexp.trans (State.enterEvacuating_full h))⟩
  · exact congrArg _ ((State.riseExpired_due hs hd).trans (State.enterDraining_timed hdrain))
  · subst ht
    exact congrArg _ ((State.riseExpired_due hs hd).trans (State.enterDraining_past hdrain))
  · subst ht
    exact congrArg _ (if_pos (State.expires_of hs hd))
  · subst ht
    exact State.enterWeighing_unsettled h
  · subst ht
    exact State.enterWeighing_settled h
  · subst ht
    exact ⟨fun h => State.enterEvacuating_under h, fun h => State.enterEvacuating_full h⟩
  · exact State.enterDraining_timed hdrain
  · subst ht
    rw [State.enterDraining_past hdrain]
    exact ⟨fun h => State.enterWeighing_unsettled h, fun h => State.enterWeighing_settled h⟩

end Sys2Proof.Machine
end

section
/-! What a group A conversion updates, and what the station that owns its channel judges (`Obligations.GroupAConversion`). -/

namespace Sys2Proof.Machine

/-! ### The judgements at a group A conversion (R27, R34, R37, R39, R122, R123) -/

section GroupA

variable {s : State} {n : StationNo} {i : Slot} {c : Fin 8} {p ref : Int} {raw : Raw}

theorem State.judgeDwell_restart (h : (s.channel (suctionChannel n)).reading = none
      ∨ ∃ p, (s.channel (suctionChannel n)).reading = some p ∧ ((s.station n).copyTarget : Int) < p) :
    s.judgeDwell n = s.modStation n fun x => { x with dwellStart := none } := by
  rcases h with h | ⟨p, h, hp⟩ <;> rw [State.judgeDwell, h]
  exact if_pos hp

theorem State.judgeDwell_below (h : (s.channel (suctionChannel n)).reading = some p)
    (hp : p ≤ ((s.station n).copyTarget : Int)) : s.judgeDwell n =
      match (s.station n).dwellStart with
      | none => s.modStation n fun x => { x with dwellStart := some s.clock }
      | some t => if (s.station n).copyDwell ≤ elapsed t s.clock ∧ (s.station n).probeTaken = true then s.enterRiseTest n else s := by
  rw [State.judgeDwell, h]
  exact if_neg (by omega)

theorem State.judgeRise_risen (h : (s.channel (suctionChannel n)).reading = some p) (href : (s.station n).riseRef = some ref)
    (hp : ref + ((s.station n).copyRise : Int) < p) (hb : (s.station n).bound = some i) : s.judgeRise n =
      if (s.station n).rises < 2 then (s.modStation n fun x => { x with rises := x.rises + 1 }).enterEvacuating n false
      else (s.modRecord i (Record.flag .outgassing)).enterDraining n := by
  rw [State.judgeRise, h, href, hb]
  exact if_pos hp

theorem State.judgeRise_steady (h : (s.channel (suctionChannel n)).reading = none ∨ (s.station n).riseRef = none
      ∨ ∃ ref, (s.station n).riseRef = some ref
        ∧ ∀ p, (s.channel (suctionChannel n)).reading = some p → p ≤ ref + ((s.station n).copyRise : Int)) :
    s.judgeRise n = s := by
  unfold State.judgeRise
  dsimp only
  split
  next p ref hp href =>
    rcases h with h | h | ⟨r, hr, hle⟩
    · rw [h] at hp; cases hp
    · rw [h] at href; cases href
    · obtain rfl : r = ref := by rw [hr] at href; injection href
      exact if_neg (by have := hle p hp; omega)
  · rfl

theorem State.scaleConverted_evacuating (h : (s.station n).state = .evacuating) : s.scaleConverted n = s.judgeFill n := by
  rw [State.scaleConverted, h]

theorem State.scaleConverted_other (h : (s.station n).state ≠ .evacuating) : s.scaleConverted n = s.judgeRings n := by
  unfold State.scaleConverted
  split
  · exact absurd ‹_› h
  · rfl

theorem State.suctionConverted_evacuating (h : (s.station n).state = .evacuating) : s.suctionConverted n = s.judgeDwell n := by
  rw [State.suctionConverted, h]

theorem State.suctionConverted_riseTest (h : (s.station n).state = .riseTest) : s.suctionConverted n = s.judgeRise n := by
  rw [State.suctionConverted, h]

theorem State.suctionConverted_other (h : (s.station n).state ≠ .evacuating) (h' : (s.station n).state ≠ .riseTest) :
    s.suctionConverted n = s := by
  unfold State.suctionConverted
  split
  · exact absurd ‹_› h
  · exact absurd ‹_› h'
  · rfl

theorem State.stationConverted_scale (hn : c.val / 2 = n.val) (hc : c.val % 2 = 0) : s.stationConverted c = s.scaleConverted n :=
  (if_pos hc).trans (congrArg s.scaleConverted (Fin.ext hn))

theorem State.stationConverted_suction (hn : c.val / 2 = n.val) (hc : c.val % 2 = 1) :
    s.stationConverted c = s.suctionConverted n :=
  (if_neg (by omega)).trans (congrArg s.suctionConverted (Fin.ext hn))

theorem scaleChannel_of (hn : c.val / 2 = n.val) (hc : c.val % 2 = 0) : scaleChannel n = ⟨c.val, by omega⟩ :=
  Fin.ext (by simp only [scaleChannel]; omega)

theorem suctionChannel_of (hn : c.val / 2 = n.val) (hc : c.val % 2 = 1) : suctionChannel n = ⟨c.val, by omega⟩ :=
  Fin.ext (by simp only [suctionChannel]; omega)

/-- Within the cycle the channel after the last is A0, after any other the next (R122). -/
theorem State.nextInCycle_eq (hc : c.val < 2 * s.fittedCount) :
    s.nextInCycle c = if c.val + 1 = 2 * s.fittedCount then 0 else c + 1 := by
  have hfit : s.fittedCount ≤ 4 := by unfold State.fittedCount; split <;> decide
  unfold State.nextInCycle
  split
  case isTrue h => rw [if_neg (by omega)]; exact Fin.ext (by rw [Fin.val_add_one_of_lt' (by omega)])
  case isFalse h => rw [if_pos (by omega)]

/-- The state a group A conversion leaves to the judgement of the owning station (R123, logs 6, 31). -/
def State.convertedOn (s : State) (c : Fin 8) (raw : Raw) : State :=
  State.judgeChannels { s with
    channels := s.channels.set c.val ((s.channel ⟨c.val, by omega⟩).convert raw)
    scan := { s.scan with
      next := if c.val + 1 = 2 * s.fittedCount then 0 else c + 1
      due := s.clock + 2 }
    pins := { s.pins with analog := s.pins.analog.set c.val raw } }

theorem State.groupAConverted_eq (hnext : s.scan.next = c) (hc : c.val < 2 * s.fittedCount) :
    s.groupAConverted raw = (s.convertedOn c raw).stationConverted c := by
  have hconv : s.convertedA = c := by rw [State.convertedA, hnext, if_pos hc]
  subst hconv
  rw [State.convertedOn, ← State.nextInCycle_eq hc]
  rfl

end GroupA

/-- Settles O40: the conversion up to its station's judgement, then the judgement by the channel and the station's state. -/
theorem groupAConversion : Obligations.GroupAConversion := by
  intro s raw c n u hnext hcycle hn hu
  have hexec : exec (.groupAConversion raw) s = .next (u.stationConverted c) := by
    rw [hu]; exact congrArg _ (State.groupAConverted_eq hnext hcycle)
  have hst : u.station n = s.station n := by rw [hu]; rfl
  have hclock : u.clock = s.clock := by rw [hu]; rfl
  have hitem (i : Item) : u.item i = s.item i := by rw [hu]; rfl
  have hstations : u.stations = s.stations := by rw [hu]; rfl
  clear hu
  rw [hexec, ← hst, ← hclock, ← hstations]
  simp only [← hitem]
  clear hexec hst hclock hitem hstations hnext hcycle
  refine ⟨fun hc hs => ?_, fun hc hs => ?_, fun hc hs hs' => ?_, fun hc hs p hp => ?_, fun hc hs i hi => ?_⟩
  · rw [State.stationConverted_scale hn hc, State.scaleConverted_other hs]
  · rw [State.stationConverted_scale hn hc, State.scaleConverted_evacuating hs, ← scaleChannel_of hn hc]
    refine ⟨fun h => congrArg _ (State.judgeFill_under h), fun h => congrArg _ ?_⟩
    rw [State.judgeFill_full hs h, State.enterAbortWeighing_eq]
    rfl
  · rw [State.stationConverted_suction hn hc, State.suctionConverted_other hs hs']
  · rw [State.stationConverted_suction hn hc, State.suctionConverted_evacuating hs]
    rw [← suctionChannel_of hn hc] at hp
    change p = (u.channel (suctionChannel n)).reading at hp
    subst hp
    refine ⟨fun h => congrArg _ (State.judgeDwell_restart h), fun v hv hle => ?_⟩
    rw [State.judgeDwell_below hv hle]
    refine ⟨fun hd => by rw [hd], fun d hd => ?_⟩
    rw [hd]
    refine ⟨fun h => congrArg _ ?_, fun h => congrArg _ (if_neg h)⟩
    exact (if_pos h).trans ((State.enterRiseTest_eq u n).trans (by rw [hv]; rfl))
  · rw [State.stationConverted_suction hn hc, State.suctionConverted_riseTest hs, ← suctionChannel_of hn hc]
    refine ⟨fun v ref hok hv href hrise => ?_, fun h => congrArg _ (State.judgeRise_steady ?_)⟩
    · rw [State.judgeRise_risen ((if_pos hok).trans (congrArg some hv.symm)) href hrise hi]
      exact ⟨fun h => congrArg _ (if_pos h), fun h => congrArg _ (if_neg (by omega))⟩
    · rcases h with h | h | ⟨ref, href, hle⟩
      · exact .inl (if_neg h)
      · exact .inr (.inl h)
      · refine .inr (.inr ⟨ref, href, fun p hp => ?_⟩)
        simp only [Channel.reading, Option.ite_none_right_eq_some, Option.some.injEq] at hp
        omega

end Sys2Proof.Machine
end

section
/-! The attempts ended early by ABORT EXTRACTION and by the clamp (`Obligations.AbortAndClampOpened`). -/

namespace Sys2Proof.Machine

section Ended

variable {s : State} {n : StationNo} {i : Slot} {r : Record} {tag station : Byte} {a : Answer}

/-! ### No judgement of a station reads the serial line -/

/-- The state with another link. -/
def State.onLink (s : State) (l : Link) : State := { s with link := l }

theorem State.endAttempt_link (s : State) (n : StationNo) (i : Slot) (l : Link) :
    (s.onLink l).endAttempt n i = (s.endAttempt n i).onLink l := by
  have hst : (s.onLink l).station n = s.station n := rfl
  have hrec : (s.onLink l).record i = s.record i := rfl
  unfold State.endAttempt
  rw [hst, hrec]
  rcases (s.station n).endCause with _ | c
  · rcases s.record i with _ | r <;> rfl
  · cases c <;> rfl

theorem State.weigh_link (s : State) (n : StationNo) (wf ofl : Int) (b : Bool) (l : Link) :
    (s.onLink l).weigh n wf ofl b = (s.weigh n wf ofl b).onLink l := by
  have hst : (s.onLink l).station n = s.station n := rfl
  have hrec (i : Slot) : (s.onLink l).record i = s.record i := rfl
  unfold State.weigh
  rw [hst]
  rcases (s.station n).bound with _ | i
  · rfl
  · simp only [hrec]
    rcases s.record i with _ | r
    · rfl
    · refine Eq.trans ?_ (State.endAttempt_link _ n i l)
      rfl

theorem State.enterAbortWeighing_link (s : State) (n : StationNo) (c : EndCause) (l : Link) :
    (s.onLink l).enterAbortWeighing n c = (s.enterAbortWeighing n c).onLink l := by
  have hrings : (s.onLink l).ringsSettled n = s.ringsSettled n := rfl
  cases h : s.ringsSettled n with
  | false => rw [State.enterAbortWeighing_unsettled h, State.enterAbortWeighing_unsettled (hrings.trans h)]; rfl
  | true =>
    rw [State.enterAbortWeighing_settled h, State.enterAbortWeighing_settled (hrings.trans h)]
    refine Eq.trans ?_ (State.weigh_link _ n _ _ false l)
    rfl

/-! ### The abort before and after the piercing (R44, R46) -/

theorem State.abort_pierced (h : (s.station n).pierced = true) (c : EndCause) : s.abort n c = s.enterAbortWeighing n c := if_pos h

theorem State.abort_unpierced (h : (s.station n).pierced = false) (hb : (s.station n).bound = some i) (c : EndCause) :
    s.abort n c = (s.modRecord i Record.unbind).modStation n (Station.awaiting s.pins.clamp[n]) := by
  rw [State.abort, if_neg (by simp [h]), State.returnBound_eq hb]
  rfl

theorem ansAbort_idle (hn : stationOf station = some n) (hf : s.fitted n = true) (h : (s.station n).state.running = false) :
    ansAbort station s = (s, bare .wrongPhase) :=
  (atStation_fitted _ hn hf).trans (if_neg (by simp [h]))

theorem ansAbort_running (hn : stationOf station = some n) (hf : s.fitted n = true) (h : (s.station n).state.running = true) :
    ansAbort station s = (s.abort n .abort, bare .accepted) :=
  (atStation_fitted _ hn hf).trans (if_pos h)

/-! ### The clamp opening (R42, R43) -/

/-- The level of an opened clamp. -/
def State.unclamped (s : State) (n : StationNo) : State := { s with pins := { s.pins with clamp := s.pins.clamp.set n false } }

theorem State.unclamped_clamp (s : State) (n : StationNo) : (s.unclamped n).pins.clamp[n] = false := by
  simp [State.unclamped]

theorem State.clampOpen_await (hc : s.pins.clamp[n] = true) (hs : (s.station n).state = .awaitUnclamp) :
    s.clampOpen n = (s.unclamped n).modStation n (Station.awaiting false) := by
  rw [State.clampOpen, if_neg (by simp [hc]), hs]
  exact congrArg (fun b => (s.unclamped n).modStation n (Station.awaiting b)) (s.unclamped_clamp n)

theorem State.clampOpen_quiet (hc : s.pins.clamp[n] = true) (hs : (s.station n).state ≠ .awaitUnclamp)
    (h : (s.station n).state.running = false ∨ (s.station n).state = .clamping) : s.clampOpen n = s.unclamped n := by
  rw [State.clampOpen, if_neg (by simp [hc])]
  cases hx : (s.station n).state <;> simp [hx, StationState.running] at hs h ⊢ <;> rfl

theorem State.clampOpen_running (hc : s.pins.clamp[n] = true) (h : (s.station n).state.running = true)
    (hs : (s.station n).state ≠ .clamping) (hb : (s.station n).bound = some i) : s.clampOpen n =
      ((s.unclamped n).abort n .clampOpened).raise (srcStationFault n) (some i.val) (some (.fault .clampOpened)) := by
  rw [State.clampOpen, if_neg (by simp [hc]), hb]
  cases hx : (s.station n).state <;> simp [hx, StationState.running] at hs h ⊢ <;> rfl

end Ended

/-- Settles O41: ABORT EXTRACTION, then the clamp, each by the piercing. -/
theorem abortAndClampOpened : Obligations.AbortAndClampOpened := by
  refine fun s n => ⟨fun tag station hrx hn hf => ⟨fun h => ?_, fun h hp => ?_, fun h hp i r hb hr => ?_⟩,
    fun hc p hp => ⟨fun hs => ?_, fun hs h => ?_, fun i r hs hpierced hb hr => ?_, fun i h hs hpierced hb => ?_⟩,
    fun c h => State.enterAbortWeighing_unsettled h c⟩
  · exact next_request hrx (ansAbort_idle (s := s.asked) hn hf h)
  · have hlink : (s.enterAbortWeighing n .abort).link = s.link := by
      rw [s.enterAbortWeighing_frame n .abort]
    refine next_request hrx ((ansAbort_running (s := s.asked) hn hf h).trans ?_) hlink
    rw [State.abort_pierced (s := s.asked) hp]
    exact congrArg (·, bare .accepted) (State.enterAbortWeighing_link s n .abort s.link.accept)
  · refine next_request hrx ((ansAbort_running (s := s.asked) hn hf h).trans ?_)
    rw [State.abort_unpierced (s := s.asked) hp hb, State.modRecord_modStation_eq (s := s.asked) hr]
    rfl
  · subst hp
    exact congrArg _ (State.clampOpen_await hc hs)
  · subst hp
    exact congrArg _ (State.clampOpen_quiet hc hs h)
  · subst hp
    refine congrArg _ ((State.clampOpen_running hc (by rw [hs]; rfl) (by simp [hs]) hb).trans ?_)
    rw [State.abort_unpierced (s := s.unclamped n) hpierced hb, State.modRecord_modStation_eq (s := s.unclamped n) hr,
      State.unclamped_clamp]
    rfl
  · subst hp
    refine congrArg _ ((State.clampOpen_running hc h hs hb).trans ?_)
    rw [State.abort_pierced (s := s.unclamped n) hpierced]
    rfl

end Sys2Proof.Machine
end

section
/-! The entry to STOP, station by station and at the Feeder (`Obligations.EntryToStop`). A STOP at one station changes that
station and the record it holds, by what the station, its channels, its clamp and the clock say. -/

namespace Sys2Proof.Machine

/-! ### STOP at one station (R45, R46) -/

section OneStation

variable {s t : State} {n : StationNo} {i : Slot} {r : Record}

/-- What a STOP makes of a running station that holds `r`. -/
def State.stopStation (s : State) (n : StationNo) (r : Record) : Station :=
  if (s.station n).pierced then
    if s.ringsSettled n then
      Station.awaiting s.pins.clamp[n]
        (Station.weighed (s.channel (scaleChannel n)).settledValue (s.channel (cupChannel n)).settledValue
          ((s.station n).receiver.gate (some .stop) r.gateClass
            (increment (s.channel (scaleChannel n)).settledValue ((s.station n).tareReceiver.getD 0)) (s.item iMEmpty))
          (Station.abortWeighing .stop (after s.clock (s.item iTSettle)) (s.station n)))
    else Station.abortWeighing .stop (after s.clock (s.item iTSettle)) (s.station n)
  else Station.awaiting s.pins.clamp[n] (s.station n)

/-- What a STOP at a running station makes of the record `r` it holds. -/
def State.stopRecord (s : State) (n : StationNo) (r : Record) : Record :=
  let scale := (s.channel (scaleChannel n)).settledValue
  let cup := (s.channel (cupChannel n)).settledValue
  let scaleTare := (s.station n).tareReceiver.getD 0
  let cupTare := (s.station n).tareOil.getD 0
  if (s.station n).pierced then
    if s.ringsSettled n then
      (r.weighed (increment scale scaleTare) (increment cup cupTare) (decide (scale < scaleTare ∨ cup < cupTare)) false).unbind
    else r
  else r.unbind

theorem State.stopStation_unpierced (h : (s.station n).pierced = false) :
    s.stopStation n r = (s.station n).awaiting s.pins.clamp[n] := if_neg (by simp [h])

theorem State.stopRecord_unpierced (h : (s.station n).pierced = false) : s.stopRecord n r = r.unbind := if_neg (by simp [h])

theorem State.stopStation_congr (ht : t = { s with table := t.table, stations := t.stations })
    (hst : t.station n = s.station n) : t.stopStation n r = s.stopStation n r := by
  unfold State.stopStation
  rw [hst, ht]
  rfl

theorem State.stopRecord_congr (ht : t = { s with table := t.table, stations := t.stations })
    (hst : t.station n = s.station n) : t.stopRecord n r = s.stopRecord n r := by
  unfold State.stopRecord
  rw [hst, ht]
  rfl

/-- The change that leaves a record as it is. -/
theorem State.modRecord_same (hr : s.record i = some r) : (s.modRecord i fun _ => r) = s := by
  have hslot : s.table.slots[i] = some r := hr
  have hset : s.table.slots.set i (some r) = s.table.slots := by rw [← hslot]; exact Vector.set_getElem_self _
  rw [State.modRecord_eq hr, hset]

/-- Changes of a station and of the record it holds, with what they come to. -/
theorem State.modRecord_modStation_const (hr : s.record i = some r) (f : Record → Record) (g : Station → Station) :
    (s.modRecord i f).modStation n g = (s.modRecord i fun _ => f r).modStation n fun _ => g (s.station n) := by
  rw [State.modRecord_modStation_eq hr, State.modRecord_modStation_eq hr]

theorem State.abort_stop (hlaw : (s.station n).law) (hb : (s.station n).bound = some i) (hr : s.record i = some r) :
    s.abort n .stop = (s.modRecord i fun _ => s.stopRecord n r).modStation n fun _ => s.stopStation n r := by
  cases hp : (s.station n).pierced with
  | false =>
    rw [State.abort_unpierced hp hb, State.modRecord_modStation_const hr, State.stopRecord_unpierced hp,
      State.stopStation_unpierced hp]
  | true =>
    rw [State.abort_pierced hp]
    cases hset : s.ringsSettled n with
    | false =>
      have hrec : s.stopRecord n r = r := (if_pos hp).trans (if_neg (by simp [hset]))
      have hst : s.stopStation n r = Station.abortWeighing .stop (after s.clock (s.item iTSettle)) (s.station n) :=
        (if_pos hp).trans (if_neg (by simp [hset]))
      rw [State.enterAbortWeighing_unsettled hset, hrec, hst, State.modRecord_same hr]
      rfl
    | true =>
      obtain ⟨hwt, hot⟩ := hlaw.tares hp
      obtain ⟨wt, hwt⟩ := Option.isSome_iff_exists.mp hwt
      obtain ⟨ot, hot⟩ := Option.isSome_iff_exists.mp hot
      have hx : (s.modStation n (Station.abortWeighing .stop (after s.clock (s.item iTSettle)))).station n
          = Station.abortWeighing .stop (after s.clock (s.item iTSettle)) (s.station n) := by
        rw [State.modStation_station, if_pos rfl]
      rw [State.enterAbortWeighing_settled hset,
        State.weigh_requeue (s := s.modStation n (Station.abortWeighing .stop (after s.clock (s.item iTSettle))))
          (by rw [hx]; exact hb) hr (by rw [hx]; exact hwt) (by rw [hx]; exact hot) rfl (.inr (.inl (by rw [hx]; rfl))),
        State.modStation_modRecord, State.modStation_modStation, State.modRecord_modStation_const hr, hx]
      have hrec : s.stopRecord n r = _ := (if_pos hp).trans (if_pos hset)
      have hst : s.stopStation n r = _ := (if_pos hp).trans (if_pos hset)
      rw [hrec, hst, hwt, hot]
      rfl

end OneStation

/-! ### STOP at every station (R171) -/

section Stations

variable {s t u : State} {n m : StationNo} {i : Slot} {r : Record} {l : List StationNo}

/-- A STOP handed to the stations of a list, each taking it for itself. -/
structure State.StopsAt (s t : State) (l : List StationNo) : Prop where
  frame : t = { s with table := { s.table with slots := t.table.slots }, stations := t.stations }
  other : ∀ n, n ∉ l ∨ (s.station n).state.running = false → t.station n = s.station n
  stopped : ∀ n ∈ l, ∀ i r, (s.station n).state.running = true → (s.station n).bound = some i → s.record i = some r →
    t.station n = s.stopStation n r ∧ t.record i = some (s.stopRecord n r)
  spared : ∀ i, (∀ n ∈ l, (s.station n).state.running = true → (s.station n).bound ≠ some i) → t.record i = s.record i

theorem State.StopsAt.nil (s : State) : s.StopsAt s [] := ⟨rfl, fun _ _ => rfl, nofun, fun _ _ => rfl⟩

theorem State.StopsAt.parts (h : s.StopsAt t l) : t = { s with table := t.table, stations := t.stations } := by
  have htable : t.table = { s.table with slots := t.table.slots } := by rw [h.frame]
  rw [htable]
  exact h.frame

/-- Two stations hold two appliances (R4). -/
theorem State.Agrees.bound_inj (h : s.Agrees) (hn : (s.station n).bound = some i) (hm : (s.station m).bound = some i) : n = m := by
  obtain ⟨hbond, -⟩ := h.bond
  obtain ⟨r, hr, -, hrn, -⟩ := hbond n i hn
  obtain ⟨q, hq, -, hqm, -⟩ := hbond m i hm
  obtain rfl : r = q := Option.some.inj (hr.symm.trans hq)
  exact Option.some.inj (hrn.symm.trans hqm)

theorem State.Agrees.fitted_of_running (h : s.Agrees) (hr : (s.station n).state.running = true) : s.fitted n = true := by
  refine Bool.not_eq_false _ ▸ fun hf => ?_
  rw [h.unfitted n hf] at hr
  cases hr

theorem State.stationStop_idle (h : (s.station n).state.running = false) : s.stationStop n = s := if_neg (by simp [h])

theorem State.Agrees.stationStop_stopsAt (h : s.Agrees) (n : StationNo) : s.StopsAt (s.stationStop n) [n] := by
  cases hrun : (s.station n).state.running with
  | false =>
    rw [State.stationStop_idle hrun]
    refine ⟨rfl, fun _ _ => rfl, fun m hm i r hr => ?_, fun _ _ => rfl⟩
    rw [List.mem_singleton.mp hm, hrun] at hr
    cases hr
  | true =>
    obtain ⟨i, hb⟩ := h.bound_of_busy (StationState.busy_of_running hrun)
    obtain ⟨r, hr, -⟩ := h.bond.1 n i hb
    have hstop : s.stationStop n = (s.modRecord i fun _ => s.stopRecord n r).modStation n fun _ => s.stopStation n r :=
      (if_pos (by simp [h.fitted_of_running hrun, hrun])).trans (State.abort_stop (h.station n) hb hr)
    rw [hstop]
    refine ⟨rfl, fun m hm => ?_, fun m hm j q _ hj hq => ?_, fun j hj => ?_⟩
    · rw [State.modStation_station, if_neg, State.modRecord_station]
      rintro rfl
      simp [hrun] at hm
    · obtain rfl := List.mem_singleton.mp hm
      obtain rfl : i = j := Option.some.inj (hb.symm.trans hj)
      obtain rfl : r = q := Option.some.inj (hr.symm.trans hq)
      rw [State.modStation_station, if_pos rfl, State.modStation_record, State.modRecord_record, if_pos rfl, hr]
      exact ⟨rfl, rfl⟩
    · rw [State.modStation_record, State.modRecord_record, if_neg]
      rintro rfl
      exact hj n (List.mem_singleton.mpr rfl) hrun hb

/-- A station's STOP, then that of others, which hold other appliances. -/
theorem State.StopsAt.cons (h : s.Agrees) (hm : m ∉ l) (h1 : s.StopsAt t [m]) (h2 : t.StopsAt u l) : s.StopsAt u (m :: l) := by
  have hst (n : StationNo) (hn : n ≠ m) : t.station n = s.station n := h1.other n (.inl (by simpa using hn))
  have hframe := h1.parts
  have hrec (n : StationNo) (i : Slot) (hn : n ≠ m) (hb : (s.station n).bound = some i) : t.record i = s.record i := by
    refine h1.spared i fun k hk _ hbk => hn ?_
    rw [List.mem_singleton.mp hk] at hbk
    exact h.bound_inj hb hbk
  refine ⟨?_, fun n hn => ?_, fun n hn i r hrun hb hr => ?_, fun i hi => ?_⟩
  · rw [h2.frame, h1.frame]
  · have htn : t.station n = s.station n := h1.other n (hn.imp_left fun hn hk => hn (by simp [List.mem_singleton.mp hk]))
    rw [h2.other n (hn.imp (fun hn hk => hn (List.mem_cons_of_mem _ hk)) (by rw [htn]; exact id)), htn]
  · by_cases hnm : n = m
    · subst hnm
      obtain ⟨hstn, hri⟩ := h1.stopped n (List.mem_singleton.mpr rfl) i r hrun hb hr
      refine ⟨(h2.other n (.inl hm)).trans hstn, (h2.spared i fun k hk _ hbk => ?_).trans hri⟩
      have hk' : k ≠ n := fun he => hm (he ▸ hk)
      exact hk' (h.bound_inj ((hst k hk').symm ▸ hbk) hb)
    · have hin : n ∈ l := by simpa [hnm] using hn
      obtain ⟨hstn, hri⟩ := h2.stopped n hin i r (by rwa [hst n hnm]) (by rwa [hst n hnm]) (by rwa [hrec n i hnm hb])
      exact ⟨hstn.trans (State.stopStation_congr hframe (hst n hnm)),
        hri.trans (congrArg some (State.stopRecord_congr hframe (hst n hnm)))⟩
  · refine (h2.spared i fun k hk hrun => ?_).trans (h1.spared i fun k hk => ?_)
    · have hk' : k ≠ m := fun he => hm (he ▸ hk)
      rw [hst k hk'] at hrun ⊢
      exact hi k (List.mem_cons_of_mem _ hk) hrun
    · exact hi k (by simp [List.mem_singleton.mp hk])

theorem State.Agrees.stationStops_stopsAt (h : s.Agrees) (hl : l.Nodup) : s.StopsAt (l.foldl State.stationStop s) l := by
  induction l generalizing s with
  | nil => exact .nil s
  | cons m l ih =>
    obtain ⟨hm, hl⟩ := List.nodup_cons.mp hl
    exact .cons h hm (h.stationStop_stopsAt m) (ih (h.stationStop m) hl)

/-- The entry to STOP as the stations take it (R171). -/
theorem State.Agrees.stationsStopped_stopsAt (h : s.Agrees) :
    State.StopsAt { s with line := { s.line with state := .stop } } s.stationsStopped (List.finRange 4) :=
  State.Agrees.stationStops_stopsAt (s := { s with line := { s.line with state := .stop } })
    (h.of_same ⟨rfl, rfl, rfl, rfl, rfl, rfl⟩) (List.nodup_finRange 4)

end Stations

/-! ### STOP at the Feeder (R79) -/

section AtFeeder

variable {s : State} {i : Slot} {r : Record}

theorem State.permit_stop (h : s.line.state = .stop) : s.permit = false := by simp [State.permit, h]

/-- In STOP the permit's judgement changes nothing where the Feeder agrees with the queue. -/
theorem State.judgePermit_stop (h : s.line.state = .stop) (hq : s.feeder.state = .waitPermit → s.table.shredQueue ≠ []) :
    s.judgePermit = s := by
  by_cases hw : s.feeder.state = .waitPermit
  · rw [State.judgePermit_queue hw (hq hw), State.permit_stop h]
    rfl
  · exact State.judgePermit_other hw

/-- The state once the Feeder, opening its gate, has taken a STOP. -/
def State.openingStopped (s : State) (i : Slot) (r : Record) : State := { s with
  table := { s.table with
    slots := s.table.slots.set i (some { r with phase := .shredWait })
    shredQueue := i :: s.table.shredQueue
    feeding := none }
  feeder := { s.feeder with state := .waitPermit, copied := none, deadline := none } }

theorem State.feederStop_opening (h : s.line.state = .stop) (ho : s.feeder.state = .opening) (hf : s.table.feeding = some i)
    (hr : s.record i = some r) : (s.feederHalt .stop).judgePermit = s.openingStopped i r := by
  have hstay : (s.openingStopped i r).judgePermit = s.openingStopped i r := State.judgePermit_stop h fun _ => by simp [State.openingStopped]
  have hhalt : s.feederHalt .stop = s.openingStopped i r := by
    rw [State.feederHalt, ho]
    simp only
    rw [State.returnToHead_eq hf hr, State.feederToIdle_eq, if_neg (by simp)]
    exact hstay
  rw [hhalt, hstay]

theorem State.feederStop_passing (hp : s.feeder.state = .passing) : (s.feederHalt .stop).judgePermit = s.enterJam .stop := by
  rw [State.feederHalt, hp]
  exact State.judgePermit_other (by rw [State.enterJam_eq]; simp)

theorem State.feederStop_other (h : s.line.state = .stop) (hq : s.feeder.state = .waitPermit → s.table.shredQueue ≠ [])
    (ho : s.feeder.state ≠ .opening) (hp : s.feeder.state ≠ .passing) : (s.feederHalt .stop).judgePermit = s := by
  have hhalt : s.feederHalt .stop = s := by
    unfold State.feederHalt
    split
    · exact absurd ‹_› ho
    · exact absurd ‹_› hp
    · rfl
  rw [hhalt, State.judgePermit_stop h hq]

end AtFeeder

/-! ### The entry to STOP as a whole -/

section Entry

variable {s : State} {n : StationNo} {i : Slot} {r : Record}

/-- The record in FEEDING is held by no station (R2, R4). -/
theorem State.Agrees.feeding_unbound (h : s.Agrees) (hf : s.table.feeding = some i) : (s.station n).bound ≠ some i := by
  intro hb
  obtain ⟨r, hr, hp, -⟩ := h.bond.1 n i hb
  obtain ⟨q, hq, hpq⟩ := h.filed.feeding_record hf
  obtain rfl : r = q := Option.some.inj (hr.symm.trans hq)
  rw [hp] at hpq
  cases hpq

theorem State.Agrees.stationsStopped_frame (h : s.Agrees) : s.stationsStopped = { s with
    line := { s.line with state := .stop }
    table := { s.table with slots := s.stationsStopped.table.slots }
    stations := s.stationsStopped.stations } := h.stationsStopped_stopsAt.frame

theorem State.Agrees.stationsStopped_feeding (h : s.Agrees) (hf : s.table.feeding = some i) :
    s.stationsStopped.record i = s.record i :=
  h.stationsStopped_stopsAt.spared i fun _ _ _ => h.feeding_unbound hf

theorem State.Agrees.enterStop_opening (h : s.Agrees) (ho : s.feeder.state = .opening) (hf : s.table.feeding = some i)
    (hr : s.record i = some r) : s.enterStop = s.stationsStopped.openingStopped i r := by
  have hframe := h.stationsStopped_frame
  rw [State.enterStop_eq]
  refine State.feederStop_opening ?_ ?_ ?_ ((h.stationsStopped_feeding hf).trans hr) <;> rw [hframe]
  · exact ho
  · exact hf

theorem State.Agrees.enterStop_passing (h : s.Agrees) (hp : s.feeder.state = .passing) :
    s.enterStop = s.stationsStopped.enterJam .stop := by
  rw [State.enterStop_eq]
  refine State.feederStop_passing ?_
  rw [h.stationsStopped_frame]
  exact hp

theorem State.Agrees.enterStop_other (h : s.Agrees) (ho : s.feeder.state ≠ .opening) (hp : s.feeder.state ≠ .passing) :
    s.enterStop = s.stationsStopped := by
  have hframe := h.stationsStopped_frame
  obtain ⟨-, -, -, hq, -⟩ := h.gate
  rw [State.enterStop_eq]
  refine State.feederStop_other ?_ ?_ ?_ ?_ <;> rw [hframe]
  · exact hq
  · exact ho
  · exact hp

/-- The three things the Feeder does at a STOP (R79). -/
theorem State.Agrees.enterStop_cases (h : s.Agrees) :
    (∃ i r, s.feeder.state = .opening ∧ s.table.feeding = some i ∧ s.enterStop = s.stationsStopped.openingStopped i r)
      ∨ (s.feeder.state = .passing ∧ s.enterStop = s.stationsStopped.enterJam .stop)
      ∨ (s.feeder.state ≠ .opening ∧ s.feeder.state ≠ .passing ∧ s.enterStop = s.stationsStopped) := by
  by_cases ho : s.feeder.state = .opening
  · obtain ⟨hf, -⟩ := h.gate
    obtain ⟨i, hi⟩ := Option.isSome_iff_exists.mp (hf (.inl ho))
    obtain ⟨r, hr, -⟩ := h.filed.feeding_record hi
    exact .inl ⟨i, r, ho, hi, h.enterStop_opening ho hi hr⟩
  · by_cases hp : s.feeder.state = .passing
    · exact .inr (.inl ⟨hp, h.enterStop_passing hp⟩)
    · exact .inr (.inr ⟨ho, hp, h.enterStop_other ho hp⟩)

theorem State.enterStop_station (s : State) : s.enterStop.station = s.stationsStopped.station := by
  unfold State.station
  rw [s.enterStop_haltFrame]

/-- The Feeder at a STOP touches no record but the one its gate was opening for. -/
theorem State.Agrees.enterStop_record (h : s.Agrees) (hi : s.feeder.state = .opening → s.table.feeding ≠ some i) :
    s.enterStop.record i = s.stationsStopped.record i := by
  rcases h.enterStop_cases with ⟨j, r, ho, hj, he⟩ | ⟨-, he⟩ | ⟨-, -, he⟩ <;> rw [he]
  · have hij : j.val ≠ i.val := fun he => hi ho (hj.trans (congrArg some (Fin.ext he)))
    exact Vector.getElem_set_ne j.isLt i.isLt hij
  · rfl

/-- What the entry to STOP may change. -/
theorem State.Agrees.enterStop_frame (h : s.Agrees) : s.enterStop = { s with
    line := { s.line with state := .stop }, table := s.enterStop.table, stations := s.enterStop.stations
    feeder := s.enterStop.feeder
    arb := if s.feeder.state = .passing then
        s.arb.raise s.clock srcFeedJam (s.table.feeding.map Fin.val) (some (.jam .stop))
      else s.arb } := by
  have hframe := h.stationsStopped_frame
  rcases h.enterStop_cases with ⟨j, r, ho, hj, he⟩ | ⟨hp, he⟩ | ⟨-, hp, he⟩
  · rw [if_neg (by simp [ho]), he, hframe]
    rfl
  · rw [if_pos hp, he, hframe]
    rfl
  · rw [if_neg hp, he, hframe]

theorem State.Agrees.enterStop_table (h : s.Agrees) : s.enterStop.table = { s.table with
    slots := s.enterStop.table.slots, shredQueue := s.enterStop.table.shredQueue, feeding := s.enterStop.table.feeding } := by
  have hframe := h.stationsStopped_frame
  rcases h.enterStop_cases with ⟨j, r, -, -, he⟩ | ⟨-, he⟩ | ⟨-, -, he⟩ <;> rw [he, hframe] <;> rfl

theorem State.Agrees.enterStop_queue (h : s.Agrees) (ho : s.feeder.state ≠ .opening) :
    s.enterStop.table.shredQueue = s.table.shredQueue ∧ s.enterStop.table.feeding = s.table.feeding := by
  have hframe := h.stationsStopped_frame
  rcases h.enterStop_cases with ⟨j, r, ho', -, he⟩ | ⟨-, he⟩ | ⟨-, -, he⟩
  · exact absurd ho' ho
  · rw [he, hframe]; exact ⟨rfl, rfl⟩
  · rw [he, hframe]; exact ⟨rfl, rfl⟩

/-- The pierced station and its record, as its own entry to ABORT_WEIGHING leaves them. -/
theorem State.Agrees.stopped_pierced (h : s.Agrees) (hb : (s.station n).bound = some i) (hr : s.record i = some r)
    (hp : (s.station n).pierced = true) : s.stopStation n r = (s.enterAbortWeighing n .stop).station n
      ∧ some (s.stopRecord n r) = (s.enterAbortWeighing n .stop).record i := by
  rw [← State.abort_pierced hp, State.abort_stop (h.station n) hb hr, State.modStation_station, if_pos rfl,
    State.modStation_record, State.modRecord_record, if_pos rfl, hr]
  exact ⟨rfl, rfl⟩

end Entry

/-- Settles O46: the stations by their own STOP, which the Feeder's leaves as it is; then the Feeder by its state. -/
theorem entryToStop : Obligations.EntryToStop := by
  rintro s t hc - rfl
  have h := s.consistent_iff.mp hc
  have hstops := h.stationsStopped_stopsAt
  have hframe := h.stationsStopped_frame
  refine ⟨h.enterStop_frame, fun n hrun => ?_, fun n i r hrun hb hr => ?_, fun i r ho hf hr => ?_, fun hp => ?_, fun ho hp => ?_,
    ?_, fun ho => ?_, fun i hi hfeed => ?_⟩
  · rw [s.enterStop_station]
    exact hstops.other n (.inr hrun)
  · obtain ⟨hst, hrec⟩ := hstops.stopped n (List.mem_finRange n) i r hrun hb hr
    rw [s.enterStop_station, h.enterStop_record fun _ hf => h.feeding_unbound hf hb, hst, hrec]
    refine ⟨fun hp => ?_, fun hp => h.stopped_pierced hb hr hp⟩
    exact ⟨State.stopStation_unpierced hp, congrArg some (State.stopRecord_unpierced hp)⟩
  · rw [h.enterStop_opening ho hf hr, hframe]
    refine ⟨rfl, rfl, ?_, rfl⟩
    exact Vector.getElem_set_self _
  · rw [h.enterStop_passing hp, hframe]
    exact ⟨rfl, rfl⟩
  · rw [h.enterStop_other ho hp, hframe]
  · exact h.enterStop_table
  · exact h.enterStop_queue ho
  · exact (h.enterStop_record hfeed).trans (hstops.spared i fun n _ => hi n)

end Sys2Proof.Machine
end

section
/-! The outputs, and that EMERGENCY STOP leaves no hazardous one on (`Obligations.Outputs`). -/

namespace Sys2Proof.Machine

section Outputs

variable {s : State}

/-! ### The outputs as the states decide them (R26, R70, R80, R92, R163) -/

theorem State.shredderPermitOut_iff : s.shredderPermitOut = true ↔
    (s.line.state = .run ∨ s.line.state = .hold) ∧ s.atm.state ≠ .tripped ∧ s.feeder.state ≠ .jammed := by
  simp [State.shredderPermitOut, and_assoc]

theorem Arbiter.noticeWaiting_iff (a : Arbiter) : a.noticeWaiting = true ↔ ∃ n ∈ a.queue, a.attention ≤ n.level := by
  simp [Arbiter.noticeWaiting]

/-! ### After a STOP (R80, R171) -/

theorem State.outputs_off_of_ended {n : StationNo} (h : (s.station n).state.running = false) :
    s.pierceOut n = false ∧ s.suctionOut n = false ∧ s.oilDrainOut n = false := by
  unfold State.pierceOut State.suctionOut State.oilDrainOut
  cases hx : (s.station n).state <;> simp [hx, StationState.running] at h ⊢

theorem State.Agrees.enterStop_ended (h : s.Agrees) (n : StationNo) : (s.enterStop.station n).state.running = false := by
  rw [s.enterStop_station]
  exact State.stationStops_ended (List.mem_finRange n) (h.unfitted n)

theorem State.Agrees.enterStop_gate (h : s.Agrees) : s.enterStop.feedGateOut = false := by
  have hframe := h.stationsStopped_frame
  rcases h.enterStop_cases with ⟨j, r, -, -, he⟩ | ⟨-, he⟩ | ⟨ho, hp, he⟩ <;> rw [State.feedGateOut, he]
  · rfl
  · rfl
  · rw [hframe]
    simp [ho, hp]

theorem State.Agrees.enterStop_permit (h : s.Agrees) : s.enterStop.shredderPermitOut = false := by
  refine Bool.eq_false_iff.mpr fun hp => ?_
  obtain ⟨hl, -⟩ := State.shredderPermitOut_iff.mp hp
  rw [h.enterStop_frame] at hl
  simp at hl

/-- EMERGENCY STOP asserted outside STOP enters it, with its notice raised (R170). -/
theorem State.emergencyOn_enterStop (hl : s.line.state ≠ .stop) (hm : s.line.emergencyMark = false) :
    ∃ u, s.SameParts u ∧ s.emergencyOn = u.enterStop := by
  have hon : s.emergencyOn = State.emergencyEvent { s with pins := { s.pins with emergencyStop := true } } :=
    if_neg (by simp [hm])
  rw [hon]
  refine ⟨_, ?_, if_neg hl⟩
  exact ⟨rfl, rfl, rfl, rfl, rfl, rfl⟩

end Outputs

/-- Settles O53: each output by its definition, then the entry to STOP. -/
theorem outputs : Obligations.Outputs := by
  refine ⟨fun s => ⟨fun n => ?_, ?_, State.shredderPermitOut_iff, ?_, s.arb.noticeWaiting_iff⟩, fun s hc hl hm => ?_⟩
  · simp [State.pierceOut, State.suctionOut, State.oilDrainOut]
  · simp [State.feedGateOut]
  · simp [State.vesselDrainOut]
  · obtain ⟨u, hu, hon⟩ := State.emergencyOn_enterStop hl hm
    have h : u.Agrees := (s.consistent_iff.mp hc).of_same hu
    exact ⟨u.enterStop, congrArg _ hon, h.enterStop_permit, h.enterStop_gate,
      fun n => State.outputs_off_of_ended (h.enterStop_ended n)⟩

end Sys2Proof.Machine
end

section
/-! The contents of the reading requests, field by field at their offsets (`Obligations.ReadContents`). A content is a row of
fields; each stands where the widths before it put it. -/

namespace Sys2Proof.Machine

/-! ### Rows of fields (R188) -/

/-- From an offset on, a content is a row of fields. -/
def RowAt (content : List Byte) : Nat → List (List Byte) → Prop
  | _, [] => True
  | k, f :: fs => (content.drop k).take f.length = f ∧ RowAt content (k + f.length) fs

theorem rowAt_append (fs : List (List Byte)) (before : List Byte) : RowAt (before ++ fs.flatten) before.length fs := by
  induction fs generalizing before with
  | nil => trivial
  | cons f fs ih =>
    refine ⟨?_, ?_⟩
    · rw [List.drop_left, List.flatten_cons, List.take_left]
    · have h := ih (before ++ f)
      rwa [List.append_assoc, List.length_append] at h

theorem rowAt_flatten (fs : List (List Byte)) : RowAt fs.flatten 0 fs := rowAt_append fs []

/-- A field of one character is the character at its offset. -/
theorem one_of_field {content : List Byte} {k : Nat} {x : Byte} (h : (content.drop k).take 1 = [x]) : content[k]? = some x := by
  have h0 : ((content.drop k).take 1)[0]? = some x := by rw [h]; rfl
  rwa [List.getElem?_take_of_lt Nat.one_pos, List.getElem?_drop, Nat.add_zero] at h0

/-- The field of four at an offset within the first of two parts. -/
theorem four_append {a b : List Byte} {k : Nat} (h : k + 4 ≤ a.length) : ((a ++ b).drop k).take 4 = (a.drop k).take 4 := by
  rw [List.drop_append_of_le_length (by omega), List.take_append_of_le_length (by rw [List.length_drop]; omega)]

/-- The character at an offset beyond the first of two parts. -/
theorem one_append {a b : List Byte} {k j : Nat} (h : a.length = k) : (a ++ b)[k + j]? = b[j]? := by
  rw [List.getElem?_append_right (by omega), ← h, Nat.add_sub_cancel_left]

theorem finRange_getElem? {m : Nat} (i : Fin m) : (List.finRange m)[i.val]? = some i := by
  rw [List.getElem?_eq_getElem (by simp), List.getElem_finRange]
  rfl

/-- In fields of one width, the field of an element. -/
theorem flatMap_width {α : Type} {f : α → List Byte} {w : Nat} (hf : ∀ x, (f x).length = w) {l : List α} {k : Nat} {x : α}
    (h : l[k]? = some x) : ((l.flatMap f).drop (w * k)).take w = f x := by
  induction l generalizing k with
  | nil => cases h
  | cons y l ih =>
    rw [List.flatMap_cons]
    cases k with
    | zero =>
      obtain rfl : y = x := Option.some.inj h
      rw [Nat.mul_zero, List.drop_zero, ← hf y, List.take_left]
    | succ k =>
      rw [Nat.mul_succ, Nat.add_comm, ← List.drop_drop, ← hf y, List.drop_left, hf y]
      exact ih h

/-! ### Fields by their one-character and four-character parts -/

/-- A mark as a number. -/
def markOf (b : Bool) : Nat := if b = true then 1 else 0

theorem markByte_eq (b : Bool) : markByte b = char1 (markOf b) := by cases b <;> rfl

theorem optWord_eq (w : Option Word) : optWord w = char1 (markOf w.isSome) ++ word4 (w.getD 0) := by
  rw [optWord, markByte_eq]

theorem optInt_eq (x : Option Int) : optInt x = optWord (x.map (BitVec.ofInt 32)) := by cases x <;> rfl

theorem State.stations_toList (s : State) : s.stations.toList = [s.station 0, s.station 1, s.station 2, s.station 3] := by
  refine List.ext_getElem (by simp) fun k hk _ => ?_
  rw [Vector.length_toList] at hk
  interval_cases k <;> rfl

theorem zeroExtend_eq (x : Option Raw) :
    (x.map fun r => r.zeroExtend 32) = x.map fun r => BitVec.ofNat 32 r.toNat := by
  cases x with
  | none => rfl
  | some r => exact congrArg some (BitVec.eq_of_toNat_eq (by simp))

/-! ### The contents as rows -/

section Rows

variable (s : State) (n : StationNo) (c : Channel)

theorem State.statusContent_row : s.statusContent = List.flatten [
    char1 s.line.state.code, char1 (markOf s.pins.emergencyStop), char1 s.atm.state.code,
    char1 (markOf (s.atm.latest.map (BitVec.ofInt 32 ∘ AtmReadings.o2)).isSome),
    word4 ((s.atm.latest.map (BitVec.ofInt 32 ∘ AtmReadings.o2)).getD 0),
    char1 (markOf (s.atm.latest.map (BitVec.ofInt 32 ∘ AtmReadings.lfl)).isSome),
    word4 ((s.atm.latest.map (BitVec.ofInt 32 ∘ AtmReadings.lfl)).getD 0),
    num4 s.atm.duty, num4 s.pwm.active, char1 s.feeder.state.code, char1 ((s.feeder.jam.map JamCause.code).getD 0),
    char1 (markOf s.feeder.lastFeed.isSome), word4 (s.feeder.lastFeed.getD 0),
    char1 (markOf s.pins.gateClosed), char1 (markOf s.pins.beam), char1 (markOf s.pins.shredderRunning),
    char1 (s.station 0).state.code, char1 (s.station 1).state.code, char1 (s.station 2).state.code,
    char1 (s.station 3).state.code, num4 s.flowRate, num4 s.flow.overwrites, int4 (s.channel 10).value, num4 s.foam.debt,
    num4 s.totals[totPool].value, char1 s.foam.drain.code, char1 s.recordCount, char1 s.table.shredQueue.length,
    char1 s.table.openSet.length, char1 s.arb.queue.length, num4 s.link.good, num4 s.link.notMine, num4 s.link.framingErrors,
    num4 s.link.gapErrors, num4 s.link.checkErrors, word4 s.clock] := by
  unfold State.statusContent
  rw [s.stations_toList]
  simp only [optInt_eq, optWord_eq, markByte_eq, Option.map_map, List.flatMap_cons, List.flatMap_nil,
    List.flatten_cons, List.flatten_nil, List.append_nil, List.append_assoc]

theorem State.stationContent_row : s.stationContent n = List.flatten [
    char1 (s.station n).state.code, char1 (markOf (s.station n).bound.isSome),
    char1 (((s.station n).bound.map Fin.val).getD 0), char1 (((s.station n).faultCause.map FaultCause.code).getD 0),
    char1 (((s.station n).endCause.map EndCause.code).getD 0), char1 (s.station n).rises,
    char1 (markOf (s.station n).pierced), char1 (markOf (s.station n).probeTaken),
    char1 (((s.station n).attemptClass.map Gas.code).getD 0),
    char1 (markOf ((s.station n).tareReceiver.map (BitVec.ofInt 32)).isSome),
    word4 (((s.station n).tareReceiver.map (BitVec.ofInt 32)).getD 0),
    char1 (markOf ((s.station n).tareOil.map (BitVec.ofInt 32)).isSome),
    word4 (((s.station n).tareOil.map (BitVec.ofInt 32)).getD 0),
    char1 (markOf ((s.station n).finalReceiver.map (BitVec.ofInt 32)).isSome),
    word4 (((s.station n).finalReceiver.map (BitVec.ofInt 32)).getD 0),
    char1 (markOf ((s.station n).finalOil.map (BitVec.ofInt 32)).isSome),
    word4 (((s.station n).finalOil.map (BitVec.ofInt 32)).getD 0),
    int4 (s.channel (scaleChannel n)).value, num4 (s.item (iFill n)),
    char1 (((s.station n).receiver.assigned.map Gas.code).getD 0), num4 (s.station n).receiver.credited,
    num4 (s.station n).receiver.count, char1 (markOf (s.station n).receiver.contaminated)] := by
  rw [State.stationContent]
  simp only [optInt_eq, optWord_eq, opt1, Option.isSome_map, markByte_eq, gasCode, List.flatten_cons, List.flatten_nil, List.append_nil,
    List.append_assoc]

theorem Channel.content_row (k : Nat) : c.content k = List.flatten [
    char1 k, char1 c.status.code, char1 (markOf (c.raw.map fun r => BitVec.ofNat 32 r.toNat).isSome),
    word4 ((c.raw.map fun r => BitVec.ofNat 32 r.toNat).getD 0), int4 c.value, char1 c.ring.length,
    int4 (c.ring[0]?.getD 0), int4 (c.ring[1]?.getD 0), int4 (c.ring[2]?.getD 0), int4 (c.ring[3]?.getD 0),
    int4 (c.ring[4]?.getD 0), int4 (c.ring[5]?.getD 0), int4 (c.ring[6]?.getD 0), int4 (c.ring[7]?.getD 0),
    char1 (markOf c.settled), int4 c.zero, int4 c.span, int4 c.low, int4 c.high, num4 c.band] := by
  have hring : ringChars c.ring = List.flatten [char1 c.ring.length, int4 (c.ring[0]?.getD 0), int4 (c.ring[1]?.getD 0),
    int4 (c.ring[2]?.getD 0), int4 (c.ring[3]?.getD 0), int4 (c.ring[4]?.getD 0), int4 (c.ring[5]?.getD 0),
    int4 (c.ring[6]?.getD 0), int4 (c.ring[7]?.getD 0)] := rfl
  rw [Channel.content, hring, zeroExtend_eq]
  simp only [optWord_eq, markByte_eq, List.flatten_cons, List.flatten_nil, List.append_nil, List.append_assoc]

end Rows

/-- Settles O25: each content is a row of fields, and its fields stand where the widths before them put them. -/
theorem readContents : Obligations.ReadContents := by
  intro s content one four opt num int mark hone hfour hopt hnum hint hmark
  obtain rfl : num = fun x => BitVec.ofNat 32 x := funext hnum
  obtain rfl : int = fun x => BitVec.ofInt 32 x := funext hint
  obtain rfl : mark = markOf := funext hmark
  simp only [hopt, hone, hfour]
  clear hopt hone hfour hnum hint hmark opt one four
  refine ⟨fun h => ?_, fun h => ?_, fun n x hx h => ?_, fun c x hx hring h => ?_⟩
  · rw [State.configContent, List.append_assoc, List.append_assoc] at h
    have hitems : ((List.finRange 44).flatMap fun i => num4 (s.item i / (itemRow i).scale)).length = 176 := by
      rw [length_flatMap_width _ fun _ _ => num4_length _, List.length_finRange]
    have hsources : (allSources.map fun i => BitVec.ofNat 8 (levelCode s.arb.sources[i].level)).length = 21 := by
      rw [List.length_map, allSources, List.length_finRange]
    subst h
    refine ⟨fun i => ?_, fun i => ?_, ?_, ?_⟩
    · rw [four_append (by omega), flatMap_width (fun _ => num4_length _) (finRange_getElem? i)]
      rfl
    · rw [one_append hitems, List.getElem?_append_left (by omega), List.getElem?_map, allSources, finRange_getElem?]
      rfl
    · exact (one_append (j := 21) hitems).trans (one_append (j := 0) hsources)
    · exact (one_append (j := 22) hitems).trans (one_append (j := 1) hsources)
  · obtain ⟨h0, h1, h2, h3, h4, h8, h9, h13, h17, h21, h22, h23, h24, h28, h29, h30, h31, h32, h33, h34, h35, h39, h43, h47, h51, h55,
      h56, h57, h58, h59, h60, h64, h68, h72, h76, h80, -⟩ : RowAt content 0 _ := (h.trans s.statusContent_row) ▸ rowAt_flatten _
    refine ⟨one_of_field h0, one_of_field h1, one_of_field h2, ⟨one_of_field h3, h4⟩, ⟨one_of_field h8, h9⟩, h13, h17,
      one_of_field h21, one_of_field h22, ⟨one_of_field h23, h24⟩, one_of_field h28, one_of_field h29, one_of_field h30, ?_, h35, h39,
      h43, h47, h51, one_of_field h55, one_of_field h56, one_of_field h57, one_of_field h58, one_of_field h59, h60, h64, h68, h72,
      h76, h80⟩
    simp only [Fin.forall_fin_succ]
    exact ⟨one_of_field h31, one_of_field h32, one_of_field h33, one_of_field h34, nofun⟩
  · subst hx
    obtain ⟨h0, h1, h2, h3, h4, h5, h6, h7, h8, h9, h10, h14, h15, h19, h20, h24, h25, h29, h33, h37, h38, h42, h46, -⟩ :
      RowAt content 0 _ := (h.trans (s.stationContent_row n)) ▸ rowAt_flatten _
    exact ⟨one_of_field h0, one_of_field h1, one_of_field h2, one_of_field h3, one_of_field h4, one_of_field h5, one_of_field h6,
      one_of_field h7, one_of_field h8, ⟨one_of_field h9, h10⟩, ⟨one_of_field h14, h15⟩, ⟨one_of_field h19, h20⟩,
      ⟨one_of_field h24, h25⟩, h29, h33, one_of_field h37, h38, h42, one_of_field h46⟩
  · obtain ⟨h0, h1, h2, h3, h7, h11, h12, h16, h20, h24, h28, h32, h36, h40, h44, h45, h49, h53, h57, h61, -⟩ :
      RowAt content 0 _ := (h.trans (x.content_row c.val)) ▸ rowAt_flatten _
    refine ⟨one_of_field h0, one_of_field h1, ⟨one_of_field h2, h3⟩, h7, one_of_field h11, ?_, one_of_field h44, h45, h49, h53, h57,
      h61⟩
    simp only [Fin.forall_fin_succ]
    exact ⟨h12, h16, h20, h24, h28, h32, h36, h40, nofun⟩

end Sys2Proof.Machine
end

section
/-! A group B pass completion (`Obligations.GroupBPassCompletion`): the Scanner's part, then the four readers in any order. All
but the Atmosphere Controller leave the atmosphere, FLOW and the PWM, so that its part stands in whatever order they follow. -/

namespace Sys2Proof.Machine

/-! ### The Scanner's part (R95, R124, R125) -/

section Scanner

variable {k : Fin 8}

/-- The level of a group B input once a pass has given its reading (log 6). -/
def passLevel (held : List Raw) (raw : Vector Raw 8) (v : Vector Raw 16) (k : Fin 8) : Vector Raw 16 :=
  if held[k.val]? = some raw[k] then v else v.set (8 + k.val) raw[k]

theorem passLevel_groupB (held : List Raw) (raw : Vector Raw 8) (v : Vector Raw 16) (j : Fin 8) :
    (passLevel held raw v j)[8 + k.val] = if j = k ∧ held[k.val]? ≠ some raw[k] then raw[k] else v[8 + k.val] := by
  by_cases hjk : j = k
  · subst hjk
    by_cases hh : held[j.val]? = some raw[j]
    · have hlevel : passLevel held raw v j = v := if_pos hh
      rw [hlevel, if_neg fun h => h.2 hh]
    · have hlevel : passLevel held raw v j = v.set (8 + j.val) raw[j] := if_neg hh
      rw [hlevel, if_pos ⟨rfl, hh⟩, Vector.getElem_set_self]
  · have hne : 8 + j.val ≠ 8 + k.val := fun he => hjk (Fin.ext (by omega))
    rw [if_neg fun h => hjk h.1]
    unfold passLevel
    split
    · rfl
    · exact Vector.getElem_set_ne _ _ hne

theorem passLevel_groupA (held : List Raw) (raw : Vector Raw 8) (v : Vector Raw 16) (j : Fin 8) :
    (passLevel held raw v j)[k.val] = v[k.val] := by
  have hne : 8 + j.val ≠ k.val := by omega
  unfold passLevel
  split
  · rfl
  · exact Vector.getElem_set_ne _ _ hne

theorem passLevels_groupB (held : List Raw) (raw : Vector Raw 8) (l : List (Fin 8)) (v : Vector Raw 16) :
    (l.foldl (passLevel held raw) v)[8 + k.val] = if k ∈ l ∧ held[k.val]? ≠ some raw[k] then raw[k] else v[8 + k.val] := by
  induction l generalizing v with
  | nil => rw [if_neg fun h => absurd h.1 List.not_mem_nil]; rfl
  | cons j l ih =>
    rw [List.foldl_cons, ih, passLevel_groupB]
    by_cases hl : k ∈ l ∧ held[k.val]? ≠ some raw[k]
    · rw [if_pos hl, if_pos ⟨List.mem_cons_of_mem _ hl.1, hl.2⟩]
    · rw [if_neg hl]
      refine if_congr ⟨?_, ?_⟩ rfl rfl
      · rintro ⟨rfl, hh⟩
        exact ⟨List.mem_cons_self, hh⟩
      · rintro ⟨hk, hh⟩
        exact ⟨((List.mem_cons.mp hk).resolve_right fun hk => hl ⟨hk, hh⟩).symm, hh⟩

theorem passLevels_groupA (held : List Raw) (raw : Vector Raw 8) (l : List (Fin 8)) (v : Vector Raw 16) :
    (l.foldl (passLevel held raw) v)[k.val] = v[k.val] := by
  induction l generalizing v with
  | nil => rfl
  | cons j l ih => rw [List.foldl_cons, ih, passLevel_groupA]

theorem Pins.withPass_groupB (p : Pins) (held : List Raw) (raw : Vector Raw 8) (k : Fin 8) :
    (p.withPass held raw).analog[8 + k.val] = if held[k.val]? = some raw[k] then p.analog[8 + k.val] else raw[k] := by
  refine (passLevels_groupB held raw (List.finRange 8) p.analog).trans ?_
  by_cases hh : held[k.val]? = some raw[k]
  · rw [if_pos hh, if_neg fun h => h.2 hh]
  · rw [if_neg hh, if_pos ⟨List.mem_finRange k, hh⟩]

theorem Pins.withPass_groupA (p : Pins) (held : List Raw) (raw : Vector Raw 8) (k : Fin 8) :
    (p.withPass held raw).analog[k.val] = p.analog[k.val] := passLevels_groupA held raw (List.finRange 8) p.analog

/-- All but the channels is unchanged. -/
def ChannelFrame (s t : State) : Prop := t = { s with channels := t.channels }

theorem ChannelFrame.trans {s t u : State} (h : ChannelFrame s t) (k : ChannelFrame t u) : ChannelFrame s u := by
  unfold ChannelFrame at *; rw [k, h]

theorem State.takePass_frame (s : State) (raw : Vector Raw 8) : ChannelFrame s (s.takePass raw) :=
  foldl_frame (R := ChannelFrame) (fun _ => rfl) ChannelFrame.trans
    (f := fun t (k : Fin 8) => t.modChannel ⟨8 + k.val, by omega⟩ fun x => x.convert raw[k]) (fun _ _ => rfl) _ s

theorem State.passConverted_channel (s : State) (p : Pass) (raw : Vector Raw 8) (c : ChannelNo) :
    (s.passConverted p raw).channel c = (s.takePass raw).channel c := by
  unfold State.passConverted
  generalize s.takePass raw = t
  rfl

theorem State.passConverted_analog (s : State) (p : Pass) (raw : Vector Raw 8) :
    (s.passConverted p raw).pins.analog = (s.pins.withPass p.held raw).analog := by
  show ((s.takePass raw).pins.withPass p.held raw).analog = _
  rw [s.takePass_frame raw]

theorem State.passConverted_eq {s u : State} {p : Pass} {raw : Vector Raw 8} (hu : s.passConverted p raw = u) :
    u = State.judgeChannels { s with
      channels := u.channels, scan := { s.scan with pass := none }, pins := { s.pins with analog := u.pins.analog }
      foam := { s.foam with
        tickDue := if p.marked = true then some ⟨(u.channel 10).vesselReading, (u.channel 11).status, (u.channel 11).value⟩
          else s.foam.tickDue } } := by
  have hchannel (c : ChannelNo) : u.channel c = (s.takePass raw).channel c := by rw [← hu, s.passConverted_channel]
  have hframe := s.takePass_frame raw
  unfold ChannelFrame at hframe
  simp only [hchannel]
  subst hu
  unfold State.passConverted
  generalize s.takePass raw = t at hframe
  rw [hframe]
  rfl

/-- What the Scanner's part may change. -/
def ScanFrame (s t : State) : Prop := t = { s with
  channels := t.channels, scan := { s.scan with pass := none }, pins := { s.pins with analog := t.pins.analog }
  foam := t.foam, arb := t.arb }

theorem State.passConverted_frame (s : State) (p : Pass) (raw : Vector Raw 8) : ScanFrame s (s.passConverted p raw) := by
  have hframe := s.takePass_frame raw
  unfold ChannelFrame at hframe
  unfold ScanFrame State.passConverted
  generalize s.takePass raw = t at hframe
  rw [hframe]
  rfl

end Scanner

/-! ### What the readers leave alone -/

section Readers

variable {s t u : State}

/-- What the readers but the Atmosphere Controller may change. -/
def ReaderFrame (s t : State) : Prop := t = { s with
  table := t.table, stations := t.stations, feeder := t.feeder, foam := t.foam, totals := t.totals, arb := t.arb }

theorem ReaderFrame.refl (s : State) : ReaderFrame s s := rfl

theorem ReaderFrame.trans (h : ReaderFrame s t) (k : ReaderFrame t u) : ReaderFrame s u := by
  unfold ReaderFrame at *; rw [k, h]

theorem TickFrame.reader (h : TickFrame s t) : ReaderFrame s t := by
  unfold TickFrame at h; unfold ReaderFrame; rw [h]

theorem HaltFrame.reader (h : HaltFrame s t) : ReaderFrame s t := by
  unfold HaltFrame at h; unfold ReaderFrame; rw [h]

theorem StationFrame.reader (h : StationFrame s t) : ReaderFrame s t := by
  unfold StationFrame at h; unfold ReaderFrame; rw [h]

theorem State.tickStep_reader (s : State) : ReaderFrame s s.tickStep := by
  unfold State.tickStep
  split
  · exact .refl s
  case h_2 x _ =>
    obtain ⟨u, hu, -, ht | ht⟩ := s.tick_cases x <;> rw [ht]
    · exact hu.reader
    · exact hu.reader.trans u.judgePermit_frame.halt.reader

theorem State.attributionPass_reader (s : State) (m a : Bool) : ReaderFrame s (s.attributionPass m a) := by
  unfold State.attributionPass
  split
  · split
    · exact .refl s
    · exact s.tickStep_reader
  · rfl

theorem State.stationsPass_frame (s : State) : StationFrame s s.stationsPass := by
  refine foldl_frame StationFrame.refl StationFrame.trans (fun t n => ?_) _ s
  split
  · exact t.judgeRings_frame n
  · exact .refl t

theorem State.readPass_reader {r : PassReader} (hr : r ≠ .atmosphere) (s : State) (m a : Bool) : ReaderFrame s (s.readPass m a r) := by
  cases r with
  | atmosphere => exact absurd rfl hr
  | attribution => exact s.attributionPass_reader m a
  | feeder => exact s.feederPass_frame.reader
  | stations => exact s.stationsPass_frame.reader

theorem State.readPasses_reader {l : List PassReader} (hl : .atmosphere ∉ l) (s : State) (m a : Bool) :
    ReaderFrame s (l.foldl (State.readPass m a) s) := by
  induction l generalizing s with
  | nil => exact .refl s
  | cons r l ih =>
    have hr : r ≠ .atmosphere := fun he => hl (he ▸ List.mem_cons_self)
    exact (State.readPass_reader hr s m a).trans (ih (fun hm => hl (List.mem_cons_of_mem _ hm)) _)

/-! ### The Atmosphere Controller's part (R83, R90, R91) -/

/-- What the Atmosphere Controller may change up to its duty. -/
def MovesFrame (s t : State) : Prop := t = { s with
  table := t.table, feeder := t.feeder, arb := t.arb, atm := { t.atm with latest := some s.readingsNow } }

theorem State.runHold_latest (s : State) (x : AtmState) : (s.runHold x).atm.latest = s.atm.latest := by
  unfold State.runHold
  split
  · rfl
  · split <;> rfl

theorem State.atmTransition_latest (s : State) (r : AtmReadings) (d : Bool) : (s.atmTransition r d).atm.latest = s.atm.latest := by
  unfold State.atmTransition
  simp only
  split
  · split <;> rfl
  · split
    · rfl
    · split
      · exact s.runHold_latest _
      · rfl
  · split
    · rfl
    · split <;> rfl
  · split
    · exact s.runHold_latest _
    · rfl
  · rfl

theorem MovesFrame.of_latest (h : t = { s with table := t.table, feeder := t.feeder, atm := t.atm, arb := t.arb })
    (hl : t.atm.latest = some s.readingsNow) : MovesFrame s t := by
  have hatm : { t.atm with latest := some s.readingsNow } = t.atm := by rw [← hl]
  unfold MovesFrame
  rw [hatm]
  exact h

theorem State.atmMoves_frame (s : State) : MovesFrame s s.atmMoves := by
  unfold State.atmMoves
  split
  · rfl
  · split
    · refine MovesFrame.of_latest ?_ ?_ <;> rw [State.enterTripped_frame]
      · rw [State.feederHalt_frame]
        rfl
      · rfl
    · have hframe := s.atmReads.atmTransition_frame s.readingsNow s.demandNow
      refine MovesFrame.of_latest ?_ (s.atmReads.atmTransition_latest _ _)
      rw [hframe]
      rfl

/-- The supervision leaves the state, the duty and the latest readings. -/
theorem Atmosphere.supervise_keeps (a : Atmosphere) (now : Time) (l f m : Nat) : (a.supervise now l f m).state = a.state
    ∧ (a.supervise now l f m).duty = a.duty ∧ (a.supervise now l f m).latest = a.latest := by
  unfold Atmosphere.supervise
  split
  · exact ⟨rfl, rfl, rfl⟩
  · split
    · exact ⟨rfl, rfl, rfl⟩
    · split <;> exact ⟨rfl, rfl, rfl⟩

/-- A pass that the Atmosphere Controller has taken: its readings are the latest, its duty stands in the PWM's buffer and the
capture is marked read (R83, R90, R91, R147). -/
structure PassRead (s t : State) : Prop where
  frame : t = { s with
    table := t.table, stations := t.stations, feeder := t.feeder, atm := t.atm, foam := t.foam, totals := t.totals
    flow := { s.flow with unused := false }, pwm := { s.pwm with buffer := t.atm.duty }, arb := t.arb }
  latest : t.atm.latest = some t.readingsNow
  duty : t.atm.duty = dutyOf t.atm.state (t.channel 8).value (t.item iKp) (t.item iBase) (t.item iO2Set)

theorem PassRead.before (h : ReaderFrame s t) (k : PassRead t u) : PassRead s u := by
  refine ⟨?_, k.latest, k.duty⟩
  rw [k.frame, h]

theorem PassRead.after (h : PassRead s t) (k : ReaderFrame t u) : PassRead s u := by
  have hread := h.latest
  have hduty := h.duty
  unfold ReaderFrame at k
  refine ⟨?_, ?_, ?_⟩
  · rw [k, h.frame]
  · rw [k]; exact hread
  · rw [k]; exact hduty

theorem MovesFrame.gate (h : MovesFrame s t) (k : GateFrame t u) : MovesFrame s u := by
  unfold GateFrame at k
  unfold MovesFrame at *
  rw [k, h]

/-- The duty is formed once the controller has moved, and stands through the supervision (R90, R91). -/
theorem MovesFrame.read (h : MovesFrame s t) : PassRead s (t.writeDuty s.readingsNow.o2).superviseFlow := by
  obtain ⟨hstate, hduty, hlatest⟩ := (t.writeDuty s.readingsNow.o2).atm.supervise_keeps t.clock (t.item iTNf)
    (t.writeDuty s.readingsNow.o2).flowRate (t.item iFMin)
  have hd : (t.writeDuty s.readingsNow.o2).superviseFlow.atm.duty = (t.writeDuty s.readingsNow.o2).atm.duty := hduty
  have hst : (t.writeDuty s.readingsNow.o2).superviseFlow.atm.state = t.atm.state := hstate
  have hl : (t.writeDuty s.readingsNow.o2).superviseFlow.atm.latest = t.atm.latest := hlatest
  unfold MovesFrame at h
  refine ⟨?_, ?_, ?_⟩
  · rw [hd, h]
    rfl
  · rw [hl, h]
    rfl
  · rw [hd, hst, h]
    rfl

theorem State.atmospherePass_read (s : State) : PassRead s s.atmospherePass := by
  rw [State.atmospherePass_eq]
  split
  · exact s.atmMoves_frame.read
  · exact (s.atmMoves_frame.gate (State.judgePermit_frame _)).read

theorem State.atmospherePass_foam (s : State) : s.atmospherePass.foam = s.foam := by
  have hfoam {t : State} (h : MovesFrame s t) : (t.writeDuty s.readingsNow.o2).superviseFlow.foam = s.foam := by
    show t.foam = s.foam
    rw [h]
  rw [State.atmospherePass_eq]
  split
  · exact hfoam s.atmMoves_frame
  · exact hfoam (s.atmMoves_frame.gate (State.judgePermit_frame _))

theorem State.readPasses_read {l : List PassReader} (hn : l.Nodup) (hl : .atmosphere ∈ l) (s : State) (m a : Bool) :
    PassRead s (l.foldl (State.readPass m a) s) := by
  induction l generalizing s with
  | nil => cases hl
  | cons r l ih =>
    obtain ⟨hr, hn⟩ := List.nodup_cons.mp hn
    by_cases hatm : r = .atmosphere
    · subst hatm
      exact s.atmospherePass_read.after (State.readPasses_reader hr _ m a)
    · have hl : .atmosphere ∈ l := (List.mem_cons.mp hl).resolve_left (Ne.symm hatm)
      exact .before (State.readPass_reader hatm s m a) (ih hn hl _)

/-- What a completion may change, from the Scanner's part to the last reader's. -/
theorem PassRead.of_scan (h : ScanFrame s t) (k : PassRead t u) : u = { s with
    table := u.table, stations := u.stations, feeder := u.feeder, atm := u.atm, foam := u.foam, totals := u.totals
    channels := t.channels, scan := { s.scan with pass := none }, flow := { s.flow with unused := false }
    pwm := { s.pwm with buffer := u.atm.duty }, arb := u.arb, pins := { s.pins with analog := t.pins.analog } } := by
  rw [k.frame, h]

/-! ### The tick that is due (R94, log 4) -/

theorem State.tickStep_due (s : State) : s.tickStep.foam.tickDue = none := by
  unfold State.tickStep
  split
  · assumption
  case h_2 x _ =>
    obtain ⟨u, -, hu, ht | ht⟩ := s.tick_cases x <;> rw [ht]
    · exact hu
    · rw [u.judgePermit_frame]
      exact hu

theorem State.readPass_due {r : PassReader} {m a : Bool} (h : r ≠ .attribution ∨ m = false ∨ a = true) (s : State) :
    (s.readPass m a r).foam.tickDue = s.foam.tickDue := by
  cases r with
  | atmosphere => exact congrArg Foam.tickDue s.atmospherePass_foam
  | attribution =>
    rcases h with h | rfl | rfl
    · exact absurd rfl h
    · rfl
    · cases m <;> rfl
  | feeder => exact congrArg (fun t => t.foam.tickDue) s.feederPass_frame
  | stations => exact congrArg (fun t => t.foam.tickDue) s.stationsPass_frame

theorem State.readPasses_due {m a : Bool} (h : m = false ∨ a = true) (l : List PassReader) (s : State) :
    (l.foldl (State.readPass m a) s).foam.tickDue = s.foam.tickDue :=
  foldl_frame (R := fun s t => t.foam.tickDue = s.foam.tickDue) (fun _ => rfl) (fun h k => k.trans h)
    (fun s _ => s.readPass_due (.inr h)) l s

/-- Where the unit takes the tick in the pass, none is due after it. -/
theorem State.readPasses_taken {l : List PassReader} {s : State} (h : .attribution ∈ l ∨ s.foam.tickDue = none) :
    (l.foldl (State.readPass true false) s).foam.tickDue = none := by
  induction l generalizing s with
  | nil => exact h.resolve_left nofun
  | cons r l ih =>
    refine ih ?_
    by_cases hr : r = .attribution
    · subst hr
      exact .inr s.tickStep_due
    · refine h.imp (fun h => (List.mem_cons.mp h).resolve_left (Ne.symm hr)) fun h => ?_
      exact (s.readPass_due (.inl hr)).trans h

end Readers

/-! ### The duty law (R90) -/

theorem dutyOf_proportional {st : AtmState} (ha : st ≠ .air) (ht : st ≠ .tripped) (o2 : Int) (kp base o2Set : Nat) :
    dutyOf st o2 kp base o2Set = (clampInt 0 1000 ((base : Int) + Int.tdiv ((kp : Int) * (o2 - (o2Set : Int))) 100)).toNat := by
  cases st with
  | air => exact absurd rfl ha
  | tripped => exact absurd rfl ht
  | inerting => rfl
  | inert => rfl
  | recovering => rfl

theorem clampInt_eq (lo hi x : Int) (h : lo ≤ hi) : clampInt lo hi x = max lo (min hi x) := by
  unfold clampInt
  split
  · omega
  · split <;> omega

/-- Division by 100 towards 0. -/
theorem tdiv_hundred (x : Int) : (0 ≤ x → 100 * Int.tdiv x 100 ≤ x ∧ x < 100 * (Int.tdiv x 100 + 1))
    ∧ (x < 0 → x ≤ 100 * Int.tdiv x 100 ∧ 100 * (Int.tdiv x 100 - 1) < x) := by
  refine ⟨fun h => ?_, fun h => ?_⟩
  · rw [Int.tdiv_eq_ediv_of_nonneg h]
    omega
  · have hneg : Int.tdiv x 100 = -(-x / 100) := by
      rw [← Int.tdiv_eq_ediv_of_nonneg (by omega), Int.neg_tdiv, neg_neg]
    rw [hneg]
    omega

/-! ### The readers as their parts of the specification say them -/

theorem State.judgeBreakthrough_ofPass (s : State) : s.judgeBreakthrough s.readingsOfPass = { s with
    foam := { s.foam with
      breakthrough := decide ((s.channel 11).status = .ok ∧ (s.item iLBreak : Int) < (s.channel 11).value) }
    arb := s.arb.report s.clock srcBreakthrough
      (decide ((s.channel 11).status = .ok ∧ (s.item iLBreak : Int) < (s.channel 11).value)) none
      (some (.number (s.channel 11).value)) } := by
  rw [State.judgeBreakthrough, State.breakthroughAt_eq]
  rfl

theorem State.judgeVessel_eq (s : State) : s.judgeVessel = { s with
    arb := s.arb.report s.clock srcVesselHigh
      (decide ((s.channel 10).status = .ok ∧ (s.item iVHigh : Int) ≤ (s.channel 10).value)) none
      (some (.number (s.channel 10).value)) } := by
  have hhigh : s.vesselHigh = decide ((s.channel 10).status = .ok ∧ (s.item iVHigh : Int) ≤ (s.channel 10).value) := by
    rw [Bool.eq_iff_iff]
    simp [State.vesselHigh]
  rw [State.judgeVessel, hhigh]
  rfl

theorem State.passCompleted_none {s : State} (hp : s.scan.pass = none) (raw : Vector Raw 8) (first : List PassReader)
    (apart : Bool) : s.passCompleted raw first apart = s := by
  unfold State.passCompleted
  rw [hp]

theorem State.passCompleted_some {s : State} {p : Pass} (hp : s.scan.pass = some p) (raw : Vector Raw 8) (first : List PassReader)
    (apart : Bool) : s.passCompleted raw first apart =
      (readerOrder first).foldl (State.readPass p.marked apart) (s.passConverted p raw) := by
  unfold State.passCompleted
  rw [hp]

/-- Settles O49: the Scanner's part, the order, and what the readers come to whatever that order is; then the duty law. -/
theorem groupBPassCompletion : Obligations.GroupBPassCompletion := by
  refine ⟨fun s raw first apart => ⟨fun hp => ?_, fun p hp => ?_⟩, fun o2 kp base o2Set => ⟨rfl, rfl, fun st ha ht => ?_⟩⟩
  · exact congrArg _ (State.passCompleted_none hp raw first apart)
  · obtain ⟨hnodup, hall, hfirst⟩ := readerOrder_spec first
    have hu := State.passConverted_eq (rfl : s.passConverted p raw = _)
    have hread := State.readPasses_read hnodup (hall .atmosphere) (s.passConverted p raw) p.marked apart
    refine ⟨(readerOrder first).foldl (State.readPass p.marked apart) (s.passConverted p raw), s.passConverted p raw,
      readerOrder first, congrArg _ (State.passCompleted_some hp raw first apart), hu, fun k => ⟨?_, ?_, ?_, ?_⟩, hnodup, hall,
      hfirst, ?_, ?_, hread.latest, ?_, fun hm => ⟨fun hapart => ?_, fun hapart => ?_⟩, fun hm => ?_⟩
    · rw [State.passConverted_channel]
      exact s.takePass_groupB raw k
    · rw [State.passConverted_channel]
      exact s.takePass_groupA raw k
    · simp only [State.passConverted_analog]
      exact s.pins.withPass_groupB p.held raw k
    · simp only [State.passConverted_analog]
      exact s.pins.withPass_groupA p.held raw k
    · refine List.foldl_ext _ _ _ fun v r _ => ?_
      cases r with
      | atmosphere => rfl
      | attribution =>
        cases hm : p.marked with
        | true => cases apart <;> rfl
        | false => exact v.judgeBreakthrough_ofPass
      | feeder => exact congrArg State.judgePermit v.judgeVessel_eq
      | stations => rfl
    · exact PassRead.of_scan (s.passConverted_frame p raw) hread
    · have hitem : ((readerOrder first).foldl (State.readPass p.marked apart) (s.passConverted p raw)).item = s.item := by
        unfold State.item
        rw [PassRead.of_scan (s.passConverted_frame p raw) hread]
      exact hitem ▸ hread.duty
    · exact State.readPasses_due (.inr hapart) _ _
    · rw [hm, hapart]
      exact State.readPasses_taken (.inl (hall .attribution))
    · refine (State.readPasses_due (.inl hm) _ _).trans ?_
      rw [hu, hm]
      rfl
  · obtain ⟨hpos, hneg⟩ := tdiv_hundred (kp * (o2 - o2Set))
    refine ⟨_, hpos, hneg, ?_⟩
    rw [dutyOf_proportional ha ht, clampInt_eq _ _ _ (by decide)]
    omega

end Sys2Proof.Machine
end

section
/-! The limits that SET CONFIG takes (R84, R149, R189): clamped to their ranges and by their order, they keep the law of the limits. -/

namespace Sys2Proof.Machine

/-! ### Ranges and order (R84, R149, R189) -/

section Limits

variable {s t : State} {i : Item} {v w : Nat}

/-- The law of the limits reads the settings alone. -/
theorem State.limitLaw.of_settings (h : s.limitLaw) (ht : t.settings = s.settings) : t.limitLaw := by
  have hitem : t.item = s.item := by unfold State.item; rw [ht]
  unfold State.limitLaw
  rw [hitem]
  exact h

theorem clampNat_range {lo hi : Nat} (h : lo ≤ hi) (x : Nat) : lo ≤ clampNat lo hi x ∧ clampNat lo hi x ≤ hi := by
  unfold clampNat
  split
  · omega
  · split <;> omega

theorem itemRow_range : ∀ i : Item, (itemRow i).lo ≤ (itemRow i).hi := by decide

/-- The ranges of the five limits that stand in an order (R84, R189). -/
theorem State.limitLaw.bounds (h : s.limitLaw) :
    (100 ≤ s.item iO2Set ∧ s.item iO2Set ≤ 1500) ∧ (100 ≤ s.item iLInert ∧ s.item iLInert ≤ 2000)
      ∧ (200 ≤ s.item iLTrip ∧ s.item iLTrip ≤ 2500) ∧ (10 ≤ s.item iLFeed ∧ s.item iLFeed ≤ 900)
      ∧ (20 ≤ s.item iLTripLFL ∧ s.item iLTripLFL ≤ 1000) := by
  have hrow (i : Item) : (itemRow i).lo * (itemRow i).scale ≤ s.item i ∧ s.item i ≤ (itemRow i).hi * (itemRow i).scale :=
    ⟨(h.1 i).1, (h.1 i).2.1⟩
  exact ⟨hrow iO2Set, hrow iLInert, hrow iLTrip, hrow iLFeed, hrow iLTripLFL⟩

/-- Clamped by order, a value in its range stays in it (R84). -/
theorem State.orderClamp_range (h : s.limitLaw) (hw : (itemRow i).lo ≤ w ∧ w ≤ (itemRow i).hi) :
    (itemRow i).lo ≤ s.orderClamp i w ∧ s.orderClamp i w ≤ (itemRow i).hi := by
  obtain ⟨hset, hinert, htrip, hfeed, hlfl⟩ := h.bounds
  obtain ⟨-, hoi, hit, hff, -⟩ := h
  have hrowSet : (itemRow iO2Set).lo = 100 ∧ (itemRow iO2Set).hi = 1500 := ⟨rfl, rfl⟩
  have hrowInert : (itemRow iLInert).lo = 100 ∧ (itemRow iLInert).hi = 2000 := ⟨rfl, rfl⟩
  have hrowTrip : (itemRow iLTrip).lo = 200 ∧ (itemRow iLTrip).hi = 2500 := ⟨rfl, rfl⟩
  have hrowFeed : (itemRow iLFeed).lo = 10 ∧ (itemRow iLFeed).hi = 900 := ⟨rfl, rfl⟩
  have hrowLFL : (itemRow iLTripLFL).lo = 20 ∧ (itemRow iLTripLFL).hi = 1000 := ⟨rfl, rfl⟩
  unfold State.orderClamp
  split
  case isTrue he => subst he; omega
  split
  case isTrue he => subst he; omega
  split
  case isTrue he => subst he; omega
  split
  case isTrue he => subst he; omega
  split
  case isTrue he => subst he; omega
  case isFalse => exact hw

/-- What a limit clamped by order is to the limits beside it (R84). -/
theorem State.orderClamp_order (h : s.limitLaw) (w : Nat) :
    s.orderClamp iO2Set w < s.item iLInert
      ∧ s.item iO2Set < s.orderClamp iLInert w ∧ s.orderClamp iLInert w < s.item iLTrip
      ∧ s.item iLInert < s.orderClamp iLTrip w
      ∧ s.orderClamp iLFeed w < s.item iLTripLFL ∧ s.item iLFeed < s.orderClamp iLTripLFL w := by
  have hset : s.orderClamp iO2Set w = min w (s.item iLInert - 1) := rfl
  have hinert : s.orderClamp iLInert w = min (max w (s.item iO2Set + 1)) (s.item iLTrip - 1) := rfl
  have htrip : s.orderClamp iLTrip w = max w (s.item iLInert + 1) := rfl
  have hfeed : s.orderClamp iLFeed w = min w (s.item iLTripLFL - 1) := rfl
  have hlfl : s.orderClamp iLTripLFL w = max w (s.item iLFeed + 1) := rfl
  obtain ⟨-, hoi, hit, hff, -⟩ := h
  omega

/-- The five limits and the divider are held in the unit of the request (R189). -/
theorem State.setItem_unscaled (hi : (itemRow i).scale = 1) (s : State) (v : Nat) (j : Item) :
    (s.setItem i v).item j = if i = j then v else s.item j := by
  rw [State.setItem_item, hi, Nat.mul_one]

/-- The divider takes a legal value as it is (R149). -/
theorem State.takenValue_divider (hd : dividerLegal iDivider w = true) :
    s.takenValue iDivider w = w ∧ (w = 1 ∨ w = 4 ∨ w = 16) := by
  have hw : w = 1 ∨ w = 4 ∨ w = 16 := by simpa [dividerLegal, or_assoc] using hd
  refine ⟨?_, hw⟩
  rcases hw with rfl | rfl | rfl <;> rfl

/-- A value in its range, in order where it is a limit and legal where it is the divider, keeps the law. -/
theorem State.limitLaw.setItem (h : s.limitLaw) (hd : dividerLegal i w = true) : (s.setItem i (s.takenValue i w)).limitLaw := by
  have hclamp := clampNat_range (itemRow_range i) w
  obtain ⟨hlo, hhi⟩ := State.orderClamp_range h hclamp
  refine ⟨fun j => ?_, ?_⟩
  · rw [State.setItem_item]
    split
    case isTrue hij =>
      subst hij
      exact ⟨Nat.mul_le_mul_right _ hlo, Nat.mul_le_mul_right _ hhi, Nat.mul_mod_left _ _⟩
    case isFalse => exact h.1 j
  · obtain ⟨hset, hinertLo, hinertHi, htrip, hfeed, hlfl⟩ := State.orderClamp_order h (clampNat (itemRow i).lo (itemRow i).hi w)
    obtain ⟨-, hoi, hit, hff, hdiv⟩ := h
    by_cases hi : i = iO2Set ∨ i = iLInert ∨ i = iLTrip ∨ i = iLFeed ∨ i = iLTripLFL ∨ i = iDivider
    · have hscale : (itemRow i).scale = 1 := by rcases hi with rfl | rfl | rfl | rfl | rfl | rfl <;> rfl
      simp only [State.setItem_unscaled hscale]
      rcases hi with rfl | rfl | rfl | rfl | rfl | rfl
      · exact ⟨hset, hit, hff, hdiv⟩
      · exact ⟨hinertLo, hinertHi, hff, hdiv⟩
      · exact ⟨hoi, htrip, hff, hdiv⟩
      · exact ⟨hoi, hit, hfeed, hdiv⟩
      · exact ⟨hoi, hit, hlfl, hdiv⟩
      · obtain ⟨hv, hw⟩ := s.takenValue_divider hd
        exact ⟨hoi, hit, hff, hv.symm ▸ hw⟩
    · simp only [not_or] at hi
      obtain ⟨h1, h2, h3, h4, h5, h6⟩ := hi
      simp only [State.setItem_item, if_neg h1, if_neg h2, if_neg h3, if_neg h4, if_neg h5, if_neg h6]
      exact ⟨hoi, hit, hff, hdiv⟩

end Limits

end Sys2Proof.Machine
end

section
/-! FLAMMABLE records and AIR (R88): which moves let no FLAMMABLE record in. -/

namespace Sys2Proof.Machine

/-! ### Records inside (R17, R86) -/

/-- A slot is fed or shredded (R17). -/
def State.Inside (s : State) (i : Slot) : Prop := s.table.feeding = some i ∨ i ∈ s.table.openSet

theorem State.flammableInside_iff (s : State) : s.flammableInside = true ↔ ∃ i, s.Inside i ∧ s.flammableAt i = true := by
  simp only [State.flammableInside, State.Inside, Bool.or_eq_true, Option.any_eq_true, List.any_eq_true, or_and_right, exists_or]

/-- A move that lets no record in and sets FLAMMABLE on none inside. -/
def State.Cooler (s t : State) : Prop := ∀ i, t.Inside i → s.Inside i ∧ (t.flammableAt i = true → s.flammableAt i = true)

section Cooler

variable {s t u : State} {i : Slot} {f : Record → Record}

theorem State.Cooler.refl (s : State) : s.Cooler s := fun _ h => ⟨h, id⟩

theorem State.Cooler.trans (h : s.Cooler t) (k : t.Cooler u) : s.Cooler u := fun i hi =>
  ⟨(h i (k i hi).1).1, fun hf => (h i (k i hi).1).2 ((k i hi).2 hf)⟩

theorem State.Cooler.inside (h : s.Cooler t) (ht : t.flammableInside = true) : s.flammableInside = true := by
  obtain ⟨i, hi, hf⟩ := t.flammableInside_iff.mp ht
  exact s.flammableInside_iff.mpr ⟨i, (h i hi).1, (h i hi).2 hf⟩

theorem State.Cooler.of_table (h : t.table = s.table) : s.Cooler t := fun i hi => by
  unfold State.Inside State.flammableAt State.record at *
  rw [h] at *
  exact ⟨hi, id⟩

/-- Records that keep their FLAMMABLE, in collections that take none in. -/
theorem State.Cooler.of_records (hi : ∀ i, t.Inside i → s.Inside i) (hr : ∀ i, t.flammableAt i = true → s.flammableAt i = true) :
    s.Cooler t := fun i h => ⟨hi i h, hr i⟩

theorem State.modRecord_flammableAt (hf : ∀ r, (f r).flammable = r.flammable) (s : State) (i j : Slot) :
    (s.modRecord i f).flammableAt j = s.flammableAt j := by
  unfold State.flammableAt
  rw [State.modRecord_record]
  split
  case isTrue hij => subst hij; cases s.record i <;> simp [hf]
  case isFalse => rfl

theorem State.modRecord_cooler (s : State) (i : Slot) (f : Record → Record)
    (hf : ∀ r, (f r).flammable = r.flammable := by exact fun _ => rfl) : s.Cooler (s.modRecord i f) :=
  .of_records (fun _ h => h) fun j h => by rwa [State.modRecord_flammableAt hf] at h

/-- A change of a record that is neither fed nor shredded. -/
theorem State.modRecord_cooler_outside (hi : ¬s.Inside i) (f : Record → Record) : s.Cooler (s.modRecord i f) := by
  intro j hj
  have hij : i ≠ j := fun he => hi (he ▸ hj)
  refine ⟨hj, fun h => ?_⟩
  unfold State.flammableAt at *
  rwa [State.modRecord_record, if_neg hij] at h

theorem State.modRecords_cooler (s : State) (l : List Slot) (f : Record → Record)
    (hf : ∀ r, (f r).flammable = r.flammable := by exact fun _ => rfl) : s.Cooler (s.modRecords l f) :=
  foldl_frame State.Cooler.refl State.Cooler.trans (fun t i => t.modRecord_cooler i f hf) l s

theorem State.modStation_cooler (s : State) (n : StationNo) (g : Station → Station) : s.Cooler (s.modStation n g) := .of_table rfl

end Cooler

/-! ### The stations (R25 to R48) -/

section Stations

variable {s : State} {n : StationNo}

theorem State.returnBound_cooler (s : State) (n : StationNo) : s.Cooler (s.returnBound n) := by
  unfold State.returnBound
  split
  · exact .refl s
  · exact s.modRecord_cooler _ _

theorem State.endAttempt_cooler (s : State) (n : StationNo) (i : Slot) : s.Cooler (s.endAttempt n i) := by
  have hunbind : s.Cooler (s.modRecord i Record.unbind) := s.modRecord_cooler i _
  have hextract (v : Verdict) : s.Cooler (s.modRecord i fun r => r.extract v) := s.modRecord_cooler i _
  unfold State.endAttempt
  split
  · exact hunbind.trans (.of_table rfl)
  · exact hunbind.trans (.of_table rfl)
  · exact hunbind.trans (.of_table rfl)
  · exact hunbind.trans (.of_table rfl)
  · exact (hextract _).trans (.of_table rfl)
  · exact (hextract _).trans (.of_table rfl)
  · split
    · exact .refl s
    · exact (hextract _).trans (.of_table rfl)

theorem State.weigh_cooler (s : State) (n : StationNo) (wf ofl : Int) (b : Bool) : s.Cooler (s.weigh n wf ofl b) := by
  unfold State.weigh
  split
  · exact .refl s
  · split
    · exact .refl s
    · exact ((s.modRecord_cooler _ _).trans (State.modStation_cooler _ n _)).trans (State.endAttempt_cooler _ n _)

theorem State.enterPiercing_cooler (s : State) (n : StationNo) : s.Cooler (s.enterPiercing n) := by
  unfold State.enterPiercing
  simp only
  split
  · exact .of_table rfl
  · refine State.Cooler.trans (.of_table rfl) (State.modRecord_cooler _ _ _)

theorem State.judgeRings_cooler (s : State) (n : StationNo) : s.Cooler (s.judgeRings n) := by
  unfold State.judgeRings
  split
  · split
    · exact s.enterPiercing_cooler n
    · exact s.weigh_cooler n _ _ _
    · exact s.weigh_cooler n _ _ _
    · exact .refl s
  · exact .refl s

theorem State.enterTimed_cooler (s : State) (n : StationNo) (x : StationState) (ms : Nat) : s.Cooler (s.enterTimed n x ms) :=
  .of_table rfl

theorem State.enterTaring_cooler (s : State) (n : StationNo) : s.Cooler (s.enterTaring n) :=
  (s.enterTimed_cooler n _ _).trans (State.judgeRings_cooler _ n)

theorem State.enterWeighing_cooler (s : State) (n : StationNo) : s.Cooler (s.enterWeighing n) :=
  (s.enterTimed_cooler n _ _).trans (State.judgeRings_cooler _ n)

theorem State.enterAbortWeighing_cooler (s : State) (n : StationNo) (c : EndCause) : s.Cooler (s.enterAbortWeighing n c) := by
  rw [State.enterAbortWeighing_eq]
  exact (s.modStation_cooler n _).trans (State.judgeRings_cooler _ n)

theorem State.enterDraining_cooler (s : State) (n : StationNo) : s.Cooler (s.enterDraining n) := by
  unfold State.enterDraining
  split
  · exact s.enterWeighing_cooler n
  · exact s.enterTimed_cooler n _ _

theorem State.judgeFill_cooler (s : State) (n : StationNo) : s.Cooler (s.judgeFill n) := by
  unfold State.judgeFill
  split
  · exact s.enterAbortWeighing_cooler n _
  · exact .refl s

theorem State.enterEvacuating_cooler (s : State) (n : StationNo) (b : Bool) : s.Cooler (s.enterEvacuating n b) :=
  ((s.modStation_cooler n _).trans (State.enterTimed_cooler _ n _ _)).trans (State.judgeFill_cooler _ n)

theorem State.judgeRise_cooler (s : State) (n : StationNo) : s.Cooler (s.judgeRise n) := by
  unfold State.judgeRise
  simp only
  split
  · split
    · split
      · exact (s.modStation_cooler n _).trans (State.enterEvacuating_cooler _ n false)
      · split
        · exact s.enterDraining_cooler n
        · exact (s.modRecord_cooler _ _).trans (State.enterDraining_cooler _ n)
    · exact .refl s
  · exact .refl s

theorem State.judgeDwell_cooler (s : State) (n : StationNo) : s.Cooler (s.judgeDwell n) := by
  unfold State.judgeDwell
  simp only
  repeat' split
  all_goals exact .of_table rfl

theorem State.stationConverted_cooler (s : State) (c : Fin 8) : s.Cooler (s.stationConverted c) := by
  unfold State.stationConverted State.scaleConverted State.suctionConverted
  simp only
  split
  · split
    · exact s.judgeFill_cooler _
    · exact s.judgeRings_cooler _
  · split
    · exact s.judgeDwell_cooler _
    · exact s.judgeRise_cooler _
    · exact .refl s

theorem State.judgeProbe_cooler (s : State) (n : StationNo) (i : Slot) (c : Option Gas) (o : ProbeOutcome) :
    s.Cooler (s.judgeProbe n i c o) := by
  have hm : s.Cooler (s.modStation n fun x => { x with attemptClass := c }) := s.modStation_cooler n _
  unfold State.judgeProbe
  simp only
  split
  · exact hm.trans (State.enterAbortWeighing_cooler _ n _)
  · exact (hm.trans (State.modRecord_cooler _ i _)).trans (State.enterAbortWeighing_cooler _ n _)
  · exact hm.trans (State.modStation_cooler _ n _)
  · exact hm

/-- A record that a station holds is neither fed nor shredded (R9, R14, R17). -/
theorem State.Agrees.bound_outside {i : Slot} (h : s.Agrees) (hb : (s.station n).bound = some i) : ¬s.Inside i := by
  obtain ⟨r, hr, hp, -⟩ := h.bound_record hb
  have hph : s.phaseAt i = some .extracting := by rw [State.phaseAt_some hr, hp]
  rintro (hf | ho)
  · have := (State.collects_toList.mp h.filed.feeding i).mp hf
    simp [hph] at this
  · have := (h.filed.opened.2 i).mp ho
    simp [hph] at this

theorem State.probeRecord_cooler {i : Slot} (hi : ¬s.Inside i) (r : Record) (g : Option Gas) : s.Cooler (s.probeRecord i r g) := by
  unfold State.probeRecord
  split
  · exact .refl s
  case h_2 g =>
    have hm : s.Cooler (s.modRecord i fun r => r.probed g (r.mismatches g)) := State.modRecord_cooler_outside hi _
    simp only
    split
    · exact hm.trans (.of_table rfl)
    · exact hm

/-- A probe sets FLAMMABLE on the record at its station alone (R6, R35). -/
theorem State.takeProbe_cooler (h : s.Agrees) (n : StationNo) (pair : BitVec 2) : s.Cooler (s.takeProbe n pair) := by
  have hm : s.Cooler (s.modStation n fun x => { x with probeTaken := true, probeDeadline := none }) := s.modStation_cooler n _
  unfold State.takeProbe
  simp only
  split
  · exact hm
  case h_2 i hb =>
    split
    · exact hm
    · have hout : ¬(s.modStation n fun x => { x with probeTaken := true, probeDeadline := none }).Inside i := h.bound_outside hb
      exact (hm.trans (State.probeRecord_cooler hout _ _)).trans (State.judgeProbe_cooler _ _ _ _ _)

theorem State.evacTimedOut_cooler (s : State) (n : StationNo) : s.Cooler (s.evacTimedOut n) := by
  unfold State.evacTimedOut
  split
  · split
    · exact .of_table rfl
    · exact (s.modRecord_cooler _ _).trans (.of_table rfl)
  · exact .refl s

theorem State.abort_cooler (s : State) (n : StationNo) (c : EndCause) : s.Cooler (s.abort n c) := by
  unfold State.abort
  split
  · exact s.enterAbortWeighing_cooler n c
  · exact (s.returnBound_cooler n).trans (.of_table rfl)

theorem State.stationStop_cooler (s : State) (n : StationNo) : s.Cooler (s.stationStop n) := by
  unfold State.stationStop
  split
  · exact s.abort_cooler n _
  · exact .refl s

theorem State.faultUnpierced_cooler (s : State) (n : StationNo) (c : FaultCause) : s.Cooler (s.faultUnpierced n c) :=
  (s.returnBound_cooler n).trans (.of_table rfl)

theorem State.settleExpired_cooler (s : State) (n : StationNo) : s.Cooler (s.settleExpired n) := by
  unfold State.settleExpired
  split
  · exact s.weigh_cooler n _ _ _
  · exact .refl s

theorem State.beginAttempt_cooler (s : State) (n : StationNo) (i : Slot) : s.Cooler (s.beginAttempt n i) := by
  have hbegun : s.Cooler ((s.modRecord i (Record.bind n)).modStation n (Station.begun i (after s.clock (s.item iTClamp)))) :=
    (s.modRecord_cooler i _).trans (State.modStation_cooler _ n _)
  rw [State.beginAttempt_eq]
  split
  · exact hbegun.trans (State.enterTaring_cooler _ n)
  · exact hbegun

end Stations

/-! ### The table, the gate and the tick (R12 to R20, R70 to R79, R94 to R106) -/

section Table

variable {s t : State} {i : Slot} {r : Record}

theorem State.flammableAt_congr (h : t.table.slots = s.table.slots) : t.flammableAt = s.flammableAt := by
  funext i
  unfold State.flammableAt State.record
  rw [h]

theorem State.release_cooler (s : State) (i : Slot) : s.Cooler (s.release i) :=
  (s.modRecord_cooler i fun r => { r with phase := .shredWait, releaseOrder := some s.table.relCtr }).trans fun _ h => ⟨h, id⟩

theorem State.returnToHead_cooler (s : State) : s.Cooler s.returnToHead := by
  unfold State.returnToHead
  split
  · exact .refl s
  case h_2 i _ =>
    refine (s.modRecord_cooler i fun r => { r with phase := .shredWait }).trans fun j hj => ⟨?_, id⟩
    exact hj.elim nofun .inr

/-- The feed event moves the feeding record to the open set (R15). -/
theorem State.feedRecord_cooler (s : State) (x : Time) (b : Bool) : s.Cooler (s.feedRecord x b) := by
  cases hf : s.table.feeding with
  | none => rw [State.feedRecord, hf]; exact .refl s
  | some i =>
    have htab := State.feedRecord_table hf x b
    refine .of_records (fun j hj => ?_) fun j hj => ?_
    · unfold State.Inside at *
      rw [htab] at hj
      simp only [List.mem_append, List.mem_singleton] at hj
      rcases hj with hj | hj | rfl
      · cases hj
      · exact .inr hj
      · exact .inl hf
    · rw [State.flammableAt_congr (s := s.modRecord i fun r => r.fed x (s.item iNSettle) b) (by rw [htab]; rfl),
        State.modRecord_flammableAt (f := fun r => r.fed x (s.item iNSettle) b) fun _ => rfl] at hj
      exact hj

theorem State.feedEvent_cooler (s : State) (x : Time) (b : Bool) : s.Cooler (s.feedEvent x b) :=
  (s.feedRecord_cooler x b).trans (.of_table rfl)

theorem State.closeSlot_cooler (s : State) (i : Slot) : s.Cooler (s.closeSlot i) := by
  cases hr : s.record i with
  | none => rw [State.closeSlot, hr]; exact .refl s
  | some r =>
    have htab := State.closeSlot_table hr
    refine .of_records (fun j hj => ?_) fun j hj => ?_
    · unfold State.Inside at *
      rw [htab] at hj
      exact hj.imp id List.mem_of_mem_filter
    · unfold State.flammableAt at *
      rw [State.closeSlot_refiled hr j] at hj
      split at hj
      case isTrue hij => subst hij; rw [hr]; exact hj
      case isFalse => exact hj

theorem State.closeWindow_cooler (s : State) (i : Slot) : s.Cooler (s.closeWindow i) := by
  refine (s.modRecord_cooler i _ fun r => ?_).trans (State.closeSlot_cooler _ i)
  unfold Record.foamOutcome
  split <;> rfl

theorem State.takeClosed_cooler (s : State) (tag : Byte) : s.Cooler (s.takeClosed tag) := by
  refine .of_records (fun j hj => ?_) fun j hj => ?_
  · unfold State.Inside at *
    rwa [State.takeClosed_table] at hj
  · unfold State.flammableAt at *
    rw [State.takeClosed_record] at hj
    split at hj
    · cases hj
    · exact hj

/-- An empty slot is neither fed nor shredded (R14, R17). -/
theorem State.Agrees.empty_outside (h : s.Agrees) (hr : s.record i = none) : ¬s.Inside i := by
  have hph : s.phaseAt i = none := by simp [State.phaseAt, hr]
  rintro (hf | ho)
  · have := (State.collects_toList.mp h.filed.feeding i).mp hf
    simp [hph] at this
  · have := (h.filed.opened.2 i).mp ho
    simp [hph] at this

theorem State.enrol_cooler (hi : ¬s.Inside i) (r : Record) : s.Cooler (s.enrol i r) := by
  intro j hj
  have hij : i ≠ j := fun he => hi (he ▸ hj)
  refine ⟨hj, fun h => ?_⟩
  have hrec : (s.enrol i r).record j = s.record j := (Table.put_slots s.table i j (some r)).trans (if_neg hij)
  unfold State.flammableAt at *
  rwa [hrec] at h

theorem State.withdrawClosed_cooler (s : State) (i : Slot) :
    s.Cooler ((s.modRecord i fun r => { r with foamVerdict := some .notShredded }).closeSlot i) :=
  (s.modRecord_cooler i _).trans (State.closeSlot_cooler _ i)

theorem State.tickGain_cooler (s : State) (x : Option Nat) : s.Cooler (s.tickGain x) := by
  have hdivide (t : State) (gap drain : Bool) (d : Nat) : t.Cooler (t.divide gap drain d) := by
    rw [State.divide_eq]
    exact foldl_frame State.Cooler.refl State.Cooler.trans (fun u i => u.modRecord_cooler i _) _ t
  have hfoam : s.Cooler { s with foam := (s.foam.fix x).foam } := .of_table rfl
  exact (hfoam.trans (hdivide _ _ _ _)).trans (.of_table (State.tickTotals_table _ _ _ _))

theorem State.countWindows_cooler (s : State) : s.Cooler s.countWindows :=
  (s.modRecords_cooler _ Record.countDown).trans
    (foldl_frame State.Cooler.refl State.Cooler.trans State.closeWindow_cooler _ _)

theorem State.markBreakthrough_cooler (s : State) : s.Cooler s.markBreakthrough := by
  unfold State.markBreakthrough
  split
  · exact s.modRecords_cooler _ _
  · exact .refl s

end Table

end Sys2Proof.Machine
end

section
/-! The serial line as one case (R178 to R187): whatever it hears, the part moves its Link Port, or counts an error, or lets
the owner of one request answer. What an owner can be is said once, for every law that every step keeps. -/

namespace Sys2Proof.Machine

/-! ### The owners of the catalogue (R184) -/

/-- The owners' answers, by request; BAD_KIND and BAD_LENGTH are the Request Handler's own. -/
inductive IsOwner : (State → State × Answer) → Prop
  | admission (id : Word) (dc : Byte) (c : Word) (fc fa : Byte) : IsOwner (ansAdmit id dc c fc fa)
  | query (sel : Byte) (key : Word) : IsOwner (ansQuery sel key)
  | listTable : IsOwner ansListTable
  | withdraw (id : Word) : IsOwner (ansWithdraw id)
  | release (id : Word) : IsOwner (ansRelease id)
  | takeClosed (tag : Byte) : IsOwner (ansTakeClosed tag)
  | beginAttempt (id : Word) (station : Byte) : IsOwner (ansBegin id station)
  | abort (station : Byte) : IsOwner (ansAbort station)
  | waive (id : Word) : IsOwner (ansWaive id)
  | clearStation (station : Byte) : IsOwner (ansClearStation station)
  | receiverChanged (station : Byte) : IsOwner (ansReceiverChanged station)
  | readStation (station : Byte) : IsOwner (ansReadStation station)
  | feedClear : IsOwner ansFeedClear
  | feedReturn : IsOwner ansFeedReturn
  | holdOn : IsOwner ansHoldOn
  | holdOff : IsOwner ansHoldOff
  | tripReset : IsOwner ansTripReset
  | drainBegin : IsOwner ansDrainBegin
  | drainEnd : IsOwner ansDrainEnd
  | setConfig (item : Byte) (value : Word) : IsOwner (ansSetConfig item value)
  | readConfig : IsOwner ansReadConfig
  | setChannel (c : Byte) (z sp lo hi bd : Word) : IsOwner (ansSetChannel c z sp lo hi bd)
  | readChannel (c : Byte) : IsOwner (ansReadChannel c)
  | setSource (i l : Byte) : IsOwner (ansSetSource i l)
  | setMask (m a : Byte) : IsOwner (ansSetMask m a)
  | takeNotices (tag : Byte) : IsOwner (ansTakeNotices tag)
  | readStatus : IsOwner ansReadStatus
  | readTotals : IsOwner ansReadTotals
  | clearTotals : IsOwner ansClearTotals
  | lineRun : IsOwner ansLineRun
  | lineHold : IsOwner ansLineHold
  | lineStop : IsOwner ansLineStop
  | lineResume : IsOwner ansLineResume
  | clearLine : IsOwner ansClearLine
  | badKind : IsOwner fun s => (s, bare .badKind)
  | badLength (kind : Byte) : IsOwner (ansBadLength kind)

theorem answerKind_isOwner (kind tag : Byte) (b : List Byte) : IsOwner (answerKind kind tag b) := by
  unfold answerKind
  split
  case h_1 => exact .admission _ _ _ _ _
  case h_2 => exact .query _ _
  case h_3 => exact .listTable
  case h_4 => exact .withdraw _
  case h_5 => exact .release _
  case h_6 => exact .takeClosed _
  case h_7 => exact .beginAttempt _ _
  case h_8 => exact .abort _
  case h_9 => exact .waive _
  case h_10 => exact .clearStation _
  case h_11 => exact .receiverChanged _
  case h_12 => exact .readStation _
  case h_13 => exact .feedClear
  case h_14 => exact .feedReturn
  case h_15 => exact .holdOn
  case h_16 => exact .holdOff
  case h_17 => exact .tripReset
  case h_18 => exact .drainBegin
  case h_19 => exact .drainEnd
  case h_20 => exact .setConfig _ _
  case h_21 => exact .readConfig
  case h_22 => exact .setChannel _ _ _ _ _ _
  case h_23 => exact .readChannel _
  case h_24 => exact .setSource _ _
  case h_25 => exact .setMask _ _
  case h_26 => exact .takeNotices _
  case h_27 => exact .readStatus
  case h_28 => exact .readTotals
  case h_29 => exact .clearTotals
  case h_30 => exact .lineRun
  case h_31 => exact .lineHold
  case h_32 => exact .lineStop
  case h_33 => exact .lineResume
  case h_34 => exact .clearLine
  case h_35 => exact .badKind

theorem answerFrame_isOwner (kind tag : Byte) (b : List Byte) : IsOwner (answerFrame kind tag b) := by
  unfold answerFrame
  split
  · exact .badKind
  · split
    · exact answerKind_isOwner kind tag b
    · exact .badLength kind

/-! ### Moves of the serial line (R179 to R187) -/

/-- What a character, an error, a frame or a reply does to the part. -/
inductive SerialMove (s : State) : State → Prop
  | link (l : Link) : SerialMove s { s with link := l }
  | error (l : Link) (e : LinkError) : SerialMove s (State.linkError { s with link := l } e)
  | request (kind tag : Byte) {owner : State → State × Answer} (h : IsOwner owner) : SerialMove s (s.takeRequest kind tag owner)
  | broadcast {owner : State → State × Answer} (h : IsOwner owner) : SerialMove s (s.takeBroadcast owner)

theorem SerialMove.refl (s : State) : SerialMove s s := .link s.link

/-- A case that changes nothing where its condition fails. -/
theorem SerialMove.ite {s t : State} {c : Prop} [Decidable c] (h : SerialMove s t) : SerialMove s (if c then t else s) := by
  split
  · exact h
  · exact .refl s

section Serial

variable {owner : State → State × Answer}

theorem State.request_serial (s : State) (h : IsOwner owner) (k g : Byte) : SerialMove s (s.request k g owner) := by
  unfold State.request
  split
  · exact .refl s
  · exact .request k g h

theorem State.broadcast_serial (s : State) (h : IsOwner owner) : SerialMove s (s.broadcast owner) := by
  unfold State.broadcast
  split
  · exact .refl s
  · exact .broadcast h

theorem State.goodFrame_serial (s : State) (k g : Byte) (b : List Byte) : SerialMove s (s.goodFrame k g b) := by
  unfold State.goodFrame
  split
  · split
    · exact .broadcast (answerKind_isOwner k g b)
    · exact .link _
  · exact .request k g (answerFrame_isOwner k g b)

theorem State.checkError_serial (s : State) (c : CheckCause) : SerialMove s (s.checkError c) := .ite (.error _ _)

theorem State.framingError_serial (s : State) : SerialMove s s.framingError := by
  unfold State.framingError
  split
  · exact .refl s
  · exact .error _ _

theorem State.gapError_serial (s : State) : SerialMove s s.gapError := .ite (.error _ _)

theorem State.heardAddress_serial (s : State) (a : Byte) : SerialMove s (s.heardAddress a) := by
  unfold State.heardAddress
  split
  · exact .refl s
  · exact .link _
  · exact .link _
  · exact .error (Link.hear { s.link with gapErrors := count16 s.link.gapErrors } a) .short

theorem State.heardChar_serial (s : State) (c : Byte) : SerialMove s (s.heardChar c) := by
  unfold State.heardChar
  split
  case isFalse => exact .refl s
  split
  · split
    · exact s.checkError_serial _
    · exact .link _
  split
  · exact .link _
  split
  · exact .link _
  · unfold State.frameComplete
    split
    · exact s.goodFrame_serial _ _ _
    · exact s.checkError_serial _

theorem State.startReply_serial (s : State) : SerialMove s s.startReply := by
  unfold State.startReply
  split
  · exact .refl s
  · exact .ite (.link _)

theorem State.endReply_serial (s : State) : SerialMove s s.endReply := .ite (.link _)

end Serial

/-- The commands that the serial line brings: the requests, and the events of the line (R177 to R187). -/
def onLine (c : Instr) : Bool :=
  match c with
  | .broadcastIgnored _ _ | .addressCharacter _ | .characterWithoutMark _ | .framing | .gap | .check _ | .replyStart
  | .replyEnd => true
  | c => (requestFrame c).isSome

/-- A command of the serial line is a move of it. -/
theorem exec_serial (c : Instr) (s t : State) (hc : onLine c = true) (ht : exec c s = .next t) : SerialMove s t := by
  cases c
  case admitAppliance => cases ht; exact s.request_serial (.admission _ _ _ _ _) _ _
  case queryAppliance => cases ht; exact s.request_serial (.query _ _) _ _
  case listTable => cases ht; exact s.request_serial .listTable _ _
  case withdraw => cases ht; exact s.request_serial (.withdraw _) _ _
  case releaseToShred => cases ht; exact s.request_serial (.release _) _ _
  case takeClosed => cases ht; exact s.request_serial (.takeClosed _) _ _
  case beginExtraction => cases ht; exact s.request_serial (.beginAttempt _ _) _ _
  case abortExtraction => cases ht; exact s.request_serial (.abort _) _ _
  case waiveExtraction => cases ht; exact s.request_serial (.waive _) _ _
  case clearStation => cases ht; exact s.request_serial (.clearStation _) _ _
  case receiverChanged => cases ht; exact s.request_serial (.receiverChanged _) _ _
  case readStation => cases ht; exact s.request_serial (.readStation _) _ _
  case feedClear => cases ht; exact s.request_serial .feedClear _ _
  case feedReturn => cases ht; exact s.request_serial .feedReturn _ _
  case inertHoldOn => cases ht; exact s.request_serial .holdOn _ _
  case inertHoldOff => cases ht; exact s.request_serial .holdOff _ _
  case tripReset => cases ht; exact s.request_serial .tripReset _ _
  case drainBegin => cases ht; exact s.request_serial .drainBegin _ _
  case drainEnd => cases ht; exact s.request_serial .drainEnd _ _
  case setConfig => cases ht; exact s.request_serial (.setConfig _ _) _ _
  case readConfig => cases ht; exact s.request_serial .readConfig _ _
  case setChannel => cases ht; exact s.request_serial (.setChannel _ _ _ _ _ _) _ _
  case readChannel => cases ht; exact s.request_serial (.readChannel _) _ _
  case setSource => cases ht; exact s.request_serial (.setSource _ _) _ _
  case setMask => cases ht; exact s.request_serial (.setMask _ _) _ _
  case takeNotices => cases ht; exact s.request_serial (.takeNotices _) _ _
  case readStatus => cases ht; exact s.request_serial .readStatus _ _
  case readTotals => cases ht; exact s.request_serial .readTotals _ _
  case clearTotals => cases ht; exact s.request_serial .clearTotals _ _
  case lineRun => cases ht; exact s.request_serial .lineRun _ _
  case lineHold tag b =>
    cases b <;> cases ht
    · exact s.request_serial .lineHold _ _
    · exact s.broadcast_serial .lineHold
  case lineStop tag b =>
    cases b <;> cases ht
    · exact s.request_serial .lineStop _ _
    · exact s.broadcast_serial .lineStop
  case lineResume => cases ht; exact s.request_serial .lineResume _ _
  case clearLine => cases ht; exact s.request_serial .clearLine _ _
  case badKind =>
    cases ht
    split
    · exact .refl s
    · exact s.request_serial .badKind _ _
  case broadcastIgnored =>
    cases ht
    split
    · exact .refl s
    · exact .link _
  case addressCharacter => cases ht; exact s.heardAddress_serial _
  case characterWithoutMark => cases ht; exact s.heardChar_serial _
  case framing => cases ht; exact s.framingError_serial
  case gap => cases ht; exact s.gapError_serial
  case check => cases ht; exact s.checkError_serial _
  case replyStart => cases ht; exact s.startReply_serial
  case replyEnd => cases ht; exact s.endReply_serial
  all_goals cases hc

end Sys2Proof.Machine
end

section
/-! The limits and the atmosphere (`Obligations.LimitLawKept`, `Obligations.AirLawKept`): a limit is set by SET CONFIG alone;
a FLAMMABLE record gets in by a permit, which AIR refuses it, and AIR is entered without demand alone. -/

namespace Sys2Proof.Machine

/-! ### The two laws (R84, R88, R149, R189) -/

/-- A move that keeps the law of the limits, and on an assumption the law of AIR. -/
structure State.Soundly (s : State) (P : Prop) (t : State) : Prop where
  limits : s.limitLaw → t.limitLaw
  air : P → s.airLaw → t.airLaw

section Soundly

variable {P : Prop} {s t u : State}

theorem State.Soundly.refl (s : State) : s.Soundly P s := ⟨id, fun _ => id⟩

theorem State.Soundly.trans (h : s.Soundly P t) (k : t.Soundly P u) : s.Soundly P u :=
  ⟨fun hl => k.limits (h.limits hl), fun hp ha => k.air hp (h.air hp ha)⟩

/-- A move at limits that stay. -/
theorem State.Soundly.of_air (hset : t.settings = s.settings) (h : s.airLaw → t.airLaw) : s.Soundly P t :=
  ⟨fun hl => hl.of_settings hset, fun _ => h⟩

/-- A move that on the assumption lets no FLAMMABLE record in, at an atmosphere and limits that stay. -/
theorem State.Soundly.of_cooler_if (h : P → s.Cooler t) (hset : t.settings = s.settings) (hatm : t.atm.state = s.atm.state) :
    s.Soundly P t := ⟨fun hl => hl.of_settings hset, fun hp ha hin => hatm ▸ ha ((h hp).inside hin)⟩

theorem State.Soundly.of_cooler (h : s.Cooler t) (hset : t.settings = s.settings) (hatm : t.atm.state = s.atm.state) :
    s.Soundly P t := .of_cooler_if (fun _ => h) hset hatm

/-- A move that leaves what the two laws read. -/
theorem State.Soundly.of_same (htab : t.table = s.table) (hset : t.settings = s.settings) (hatm : t.atm.state = s.atm.state) :
    s.Soundly P t := .of_cooler (.of_table htab) hset hatm

/-- A case that changes nothing where its condition fails. -/
theorem State.Soundly.ite {c : Prop} [Decidable c] (h : c → s.Soundly P t) : s.Soundly P (if c then t else s) := by
  split
  case isTrue hc => exact h hc
  case isFalse => exact .refl s

theorem foldl_soundly {α : Type} {f : State → α → State} (hf : ∀ s a, State.Soundly s P (f s a)) (l : List α) (s : State) :
    s.Soundly P (l.foldl f s) := foldl_frame State.Soundly.refl State.Soundly.trans hf l s

end Soundly

/-! ### The gate (R70 to R79) -/

section Gate

variable {P : Prop} {s t : State}

theorem State.Soundly.of_halt (h : HaltFrame s t) (ha : s.airLaw → t.airLaw) : s.Soundly P t := .of_air (by rw [h]) ha

theorem State.Soundly.of_gate (h : GateFrame s t) (hc : s.Cooler t) : s.Soundly P t := .of_cooler hc (by rw [h]) (by rw [h])

/-- In AIR the permit is given to a head that is not FLAMMABLE (R73). -/
theorem State.permit_in_air (hp : s.permit = true) (ha : s.atm.state = .air) : s.flammableHead = false := by
  simp only [State.permit, State.atmosphereFits, ha, Bool.and_eq_true] at hp
  simpa using hp.2

theorem State.airLaw.enterOpening (h : s.airLaw) (hq : s.table.shredQueue ≠ []) (hp : s.permit = true) : s.enterOpening.airLaw := by
  obtain ⟨i, rest, hq⟩ := List.exists_cons_of_ne_nil hq
  have hatm : s.enterOpening.atm = s.atm := by rw [s.enterOpening_frame]
  intro hin hair
  rw [hatm] at hair
  have hhead : s.flammableAt i = false := by
    have := State.permit_in_air hp hair
    simpa [State.flammableHead, hq] using this
  have hflame : s.enterOpening.flammableAt = s.flammableAt := by
    funext j
    rw [State.flammableAt_congr (s := s.modRecord i fun r => { r with phase := .feeding }) (by rw [State.enterOpening_eq hq]; rfl)]
    exact State.modRecord_flammableAt (f := fun r => { r with phase := .feeding }) (fun _ => rfl) s i j
  obtain ⟨j, hj, hf⟩ := (State.flammableInside_iff _).mp hin
  rw [hflame] at hf
  rw [State.Inside, State.enterOpening_eq hq] at hj
  rcases hj with hj | hj
  · cases hj
    rw [hhead] at hf
    cases hf
  · exact h (s.flammableInside_iff.mpr ⟨j, .inr hj, hf⟩) hair

theorem State.judgePermit_soundly (s : State) : s.Soundly P s.judgePermit := by
  refine .of_halt s.judgePermit_frame.halt fun h => ?_
  unfold State.judgePermit
  split
  · split
    · exact h
    case isFalse hq =>
      split
      case isTrue hp => exact h.enterOpening hq hp
      case isFalse => exact h
  · exact h

theorem State.feeder_soundly (s : State) (f : Feeder) : s.Soundly P { s with feeder := f } := .of_same rfl rfl rfl

theorem State.pins_soundly (s : State) (p : Pins) : s.Soundly P { s with pins := p } := .of_same rfl rfl rfl

theorem State.judgeIdle_soundly (s : State) : s.Soundly P s.judgeIdle :=
  .ite fun _ => (s.feeder_soundly _).trans (State.judgePermit_soundly _)

theorem State.feederToIdle_soundly (s : State) : s.Soundly P s.feederToIdle := (s.feeder_soundly _).trans (State.judgeIdle_soundly _)

theorem State.enterClosing_soundly (s : State) : s.Soundly P s.enterClosing := by
  have hclosing : s.Soundly P (s.feederTimed .closing iTClose) := s.feeder_soundly _
  unfold State.enterClosing
  simp only
  split
  · exact hclosing.trans (State.feederToIdle_soundly _)
  · exact hclosing

theorem State.enterJam_soundly (s : State) (c : JamCause) : s.Soundly P (s.enterJam c) := .of_same rfl rfl rfl

theorem State.returnToHead_soundly (s : State) : s.Soundly P s.returnToHead := .of_gate s.returnToHead_frame s.returnToHead_cooler

theorem State.feedEvent_soundly (s : State) (x : Time) (b : Bool) : s.Soundly P (s.feedEvent x b) :=
  .of_gate (s.feedEvent_frame x b) (s.feedEvent_cooler x b)

theorem State.freeJam_soundly (s : State) : s.Soundly P s.freeJam := (s.feeder_soundly _).trans (State.feederToIdle_soundly _)

theorem State.feederHalt_soundly (s : State) (c : JamCause) : s.Soundly P (s.feederHalt c) := by
  unfold State.feederHalt
  split
  · exact s.returnToHead_soundly.trans (State.feederToIdle_soundly _)
  · exact s.enterJam_soundly c
  · exact .refl s

theorem State.feederPass_soundly (s : State) : s.Soundly P s.feederPass :=
  State.Soundly.trans (t := s.judgeVessel) (.of_same rfl rfl rfl) (State.judgePermit_soundly _)

theorem State.gateOpened_soundly (s : State) : s.Soundly P s.gateOpened := by
  unfold State.gateOpened
  simp only
  split
  · exact .refl s
  · exact (s.pins_soundly _).trans (.ite fun _ => State.feeder_soundly _ _)

theorem State.gateShut_soundly (s : State) : s.Soundly P s.gateShut := by
  unfold State.gateShut
  simp only
  split
  · exact .refl s
  · exact (s.pins_soundly _).trans (.ite fun _ => State.feederToIdle_soundly _)

theorem State.openExpired_soundly (s : State) : s.Soundly P s.openExpired :=
  .ite fun _ => s.returnToHead_soundly.trans (State.enterJam_soundly _ _)

theorem State.passExpired_soundly (s : State) : s.Soundly P s.passExpired := .ite fun _ => s.enterJam_soundly _

theorem State.closeExpired_soundly (s : State) : s.Soundly P s.closeExpired := .ite fun _ => s.enterJam_soundly _

theorem State.beamCleared_soundly (s : State) : s.Soundly P s.beamCleared :=
  (s.pins_soundly _).trans (.ite fun _ => (State.feedEvent_soundly _ _ _).trans (State.enterClosing_soundly _))

theorem State.shredderRuns_soundly (s : State) (b : Bool) : s.Soundly P (s.shredderRuns b) := by
  unfold State.shredderRuns
  split
  · exact .refl s
  · exact (s.pins_soundly _).trans (State.judgePermit_soundly _)

end Gate

/-! ### The stations (R25 to R48) -/

section Stations

variable {P : Prop} {s t : State}

theorem State.Soundly.of_stations (h : StationFrame s t) (hc : s.Cooler t) : s.Soundly P t :=
  .of_cooler hc (by rw [h]) (by rw [h])

theorem State.raise_soundly (s : State) (i : SourceNo) (x : Option Nat) (v : Option Value) : s.Soundly P (s.raise i x v) :=
  .of_same rfl rfl rfl

theorem State.enterAwait_soundly (s : State) (n : StationNo) : s.Soundly P (s.enterAwait n) := .of_same rfl rfl rfl

theorem State.abort_soundly (s : State) (n : StationNo) (c : EndCause) : s.Soundly P (s.abort n c) :=
  .of_stations (s.abort_frame n c) (s.abort_cooler n c)

theorem State.clampClosed_soundly (s : State) (n : StationNo) : s.Soundly P (s.clampClosed n) := by
  unfold State.clampClosed
  simp only
  split
  · exact .refl s
  · exact (s.pins_soundly _).trans
      (.ite fun _ => .of_stations (State.enterTaring_frame _ n) (State.enterTaring_cooler _ n))

theorem State.clampOpen_soundly (s : State) (n : StationNo) : s.Soundly P (s.clampOpen n) := by
  have hpin := s.pins_soundly (P := P) { s.pins with clamp := s.pins.clamp.set n false }
  have hstop := (hpin.trans (State.abort_soundly _ n .clampOpened)).trans
    (State.raise_soundly _ (srcStationFault n) ((s.station n).bound.map Fin.val) (some (.fault .clampOpened)))
  unfold State.clampOpen
  simp only
  split
  · exact .refl s
  · split
    · exact hstop
    · exact hstop
    · exact hstop
    · exact hstop
    · exact hstop
    · exact hpin.trans (State.enterAwait_soundly _ n)
    · exact hpin

theorem State.faultUnpierced_soundly (s : State) (n : StationNo) (c : FaultCause) : s.Soundly P (s.faultUnpierced n c) :=
  .of_stations (s.faultUnpierced_frame n c) (s.faultUnpierced_cooler n c)

theorem State.pierceExpired_soundly (s : State) (n : StationNo) : s.Soundly P (s.pierceExpired n) :=
  .ite fun _ => .of_stations (s.enterEvacuating_frame n true) (s.enterEvacuating_cooler n true)

theorem State.riseExpired_soundly (s : State) (n : StationNo) : s.Soundly P (s.riseExpired n) :=
  .ite fun _ => .of_stations (s.enterDraining_frame n) (s.enterDraining_cooler n)

theorem State.drainExpired_soundly (s : State) (n : StationNo) : s.Soundly P (s.drainExpired n) :=
  .ite fun _ => .of_stations (s.enterWeighing_frame n) (s.enterWeighing_cooler n)

theorem State.takeProbe_soundly (h : P → s.Agrees) (n : StationNo) (pair : BitVec 2) :
    s.Soundly P ((s.analyserSeen n pair).takeProbe n pair) :=
  have hframe := (s.analyserSeen n pair).takeProbe_frame n pair
  (s.pins_soundly _).trans (.of_cooler_if (fun hp => State.takeProbe_cooler ((h hp).analyserSeen n pair) n pair)
    (by rw [hframe]; rfl) (by rw [hframe]; rfl))

theorem State.probeExpired_soundly (h : P → s.Agrees) (n : StationNo) (pair : BitVec 2) : s.Soundly P (s.probeExpired n pair) :=
  .ite fun _ => State.takeProbe_soundly h n pair

theorem State.evacTimedOut_soundly (s : State) (n : StationNo) : s.Soundly P (s.evacTimedOut n) :=
  .of_stations (s.evacTimedOut_frame n) (s.evacTimedOut_cooler n)

theorem State.evacExpired_soundly (h : P → s.Agrees) (n : StationNo) (pair : BitVec 2) : s.Soundly P (s.evacExpired n pair) := by
  refine .ite fun _ => ?_
  split
  · exact s.evacTimedOut_soundly n
  · exact (State.takeProbe_soundly h n pair).trans (State.evacTimedOut_soundly _ n)

theorem State.settleExpired_soundly (s : State) (n : StationNo) : s.Soundly P (s.settleExpired n) :=
  .of_stations (s.settleExpired_frame n) (s.settleExpired_cooler n)

end Stations

/-! ### The tick and the atmosphere (R83 to R106) -/

section Passes

variable {P : Prop} {s t : State}

theorem State.tick_soundly (s : State) (x : TickReadings) : s.Soundly P (s.tick x) := by
  have hbooks : s.Soundly P ((s.judgeBreakthrough x).tickGain x.vessel).countWindows.markBreakthrough := by
    have hframe : TickFrame s ((s.judgeBreakthrough x).tickGain x.vessel).countWindows.markBreakthrough :=
      ((TickFrame.trans (t := s.judgeBreakthrough x) rfl (State.tickGain_frame _ _)).trans (State.countWindows_frame _)).trans
        (State.markBreakthrough_frame _)
    have hcool : s.Cooler ((s.judgeBreakthrough x).tickGain x.vessel).countWindows.markBreakthrough :=
      ((State.Cooler.trans (t := s.judgeBreakthrough x) (.of_table rfl) (State.tickGain_cooler _ _)).trans
        (State.countWindows_cooler _)).trans (State.markBreakthrough_cooler _)
    exact .of_cooler hcool (by rw [hframe]) (by rw [hframe])
  have hfoam (t : State) (f : Foam) : t.Soundly P { t with foam := f } := .of_same rfl rfl rfl
  unfold State.tick
  simp only
  split
  · exact hbooks.trans (hfoam _ _)
  · exact (hbooks.trans (hfoam _ _)).trans (State.judgePermit_soundly _)

theorem State.tickStep_soundly (s : State) : s.Soundly P s.tickStep := by
  unfold State.tickStep
  split
  · exact .refl s
  · exact s.tick_soundly _

theorem State.attributionPass_soundly (s : State) (m a : Bool) : s.Soundly P (s.attributionPass m a) := by
  unfold State.attributionPass
  split
  · split
    · exact .refl s
    · exact s.tickStep_soundly
  · exact .of_same rfl rfl rfl

/-- A transition to AIR is one without demand (R88, R89). -/
theorem State.atmTransition_to_air {r : AtmReadings} {d : Bool} (h : (s.atmTransition r d).atm.state = .air) :
    s.atm.state = .air ∨ d = false := by
  have hold {x : AtmState} (hx : (s.runHold x).atm.state = .air) : s.atm.state = .air ∨ x = .air := by
    rcases s.runHold_state x with he | he <;> rw [he] at hx
    · exact .inl hx
    · exact .inr hx
  unfold State.atmTransition at h
  simp only at h
  split at h
  case h_1 hs => exact .inl hs
  case h_2 =>
    split at h
    case isTrue hd => exact .inr (by simp only [Bool.and_eq_true, Bool.not_eq_true'] at hd; exact hd.1)
    case isFalse =>
      split at h
      · exact .inl ((hold h).resolve_right nofun)
      · exact .inl h
  case h_3 =>
    split at h
    case isTrue hd => exact .inr (by simp only [Bool.and_eq_true, Bool.not_eq_true'] at hd; exact hd.1)
    case isFalse =>
      split at h
      · cases h
      · exact .inl h
  case h_4 =>
    split at h
    · refine (hold h).imp id fun hx => ?_
      cases d with
      | false => rfl
      | true => cases hx
    · exact .inl h
  case h_5 => exact .inl h

theorem State.atmMoves_soundly (s : State) : s.Soundly P s.atmMoves := by
  have hreads : s.Soundly P s.atmReads := .of_same rfl rfl rfl
  unfold State.atmMoves
  split
  · exact hreads
  split
  · refine .of_air (by rw [State.enterTripped_frame]; rfl) fun _ _ => ?_
    rw [State.enterTripped_frame]
    exact nofun
  · have hframe := s.atmReads.atmTransition_frame s.readingsNow s.demandNow
    refine .of_air (by rw [hframe]; rfl) fun h hin hair => ?_
    have hin : s.flammableInside = true := (State.Cooler.of_table (by rw [hframe]; rfl)).inside hin
    rcases State.atmTransition_to_air hair with hs | hd
    · exact h hin hs
    · simp [State.demandNow, hin] at hd

theorem State.atmospherePass_soundly (s : State) : s.Soundly P s.atmospherePass := by
  have hduty (t : State) (x : Int) : t.Soundly P (t.writeDuty x) := .of_same rfl rfl rfl
  have hflow (t : State) : t.Soundly P t.superviseFlow :=
    .of_same rfl rfl (t.atm.supervise_same t.clock (t.item iTNf) t.flowRate (t.item iFMin)).1
  rw [State.atmospherePass_eq]
  refine State.Soundly.trans (State.Soundly.trans ?_ (hduty _ _)) (hflow _)
  split
  · exact s.atmMoves_soundly
  · exact s.atmMoves_soundly.trans (State.judgePermit_soundly _)

theorem State.stationsPass_soundly (s : State) : s.Soundly P s.stationsPass :=
  foldl_soundly (fun t n => .ite fun _ => .of_stations (t.judgeRings_frame n) (t.judgeRings_cooler n)) _ s

theorem State.readPass_soundly (s : State) (m a : Bool) (x : PassReader) : s.Soundly P (s.readPass m a x) := by
  cases x with
  | atmosphere => exact s.atmospherePass_soundly
  | attribution => exact s.attributionPass_soundly m a
  | feeder => exact s.feederPass_soundly
  | stations => exact s.stationsPass_soundly

theorem State.passCompleted_soundly (s : State) (raw : Vector Raw 8) (first : List PassReader) (a : Bool) :
    s.Soundly P (s.passCompleted raw first a) := by
  unfold State.passCompleted
  split
  · exact .refl s
  case h_2 p _ =>
    have hframe := s.passConverted_frame p raw
    have hscan : s.Soundly P (s.passConverted p raw) := .of_same (by rw [hframe]) (by rw [hframe]) (by rw [hframe])
    exact hscan.trans (foldl_soundly (fun t x => t.readPass_soundly _ _ x) _ _)

theorem State.groupAConverted_soundly (s : State) (r : Raw) : s.Soundly P (s.groupAConverted r) := by
  unfold State.groupAConverted
  refine State.Soundly.trans ?_ (.of_stations (State.stationConverted_frame _ _) (State.stationConverted_cooler _ _))
  exact .of_same rfl rfl rfl

end Passes

/-! ### The line, the resets and the timing unit (R137 to R151, R166 to R177) -/

section Line

variable {P : Prop} {s : State}

theorem State.line_soundly (s : State) (l : Line) : s.Soundly P { s with line := l } := .of_same rfl rfl rfl

theorem State.setLine_soundly (s : State) (l : LineState) : s.Soundly P (s.setLine l) :=
  (s.line_soundly _).trans (State.judgePermit_soundly _)

theorem State.stopLine_soundly (s : State) : s.Soundly P s.stopLine := by
  unfold State.stopLine
  split
  · exact .refl s
  · have hstops := foldl_soundly (P := P) (fun t n => .of_stations (t.stationStop_frame n) (t.stationStop_cooler n)) (List.finRange 4)
      { s with line := { s.line with state := .stop } }
    exact (((s.line_soundly _).trans hstops).trans (State.feederHalt_soundly _ _)).trans (State.judgePermit_soundly _)

theorem State.emergencyOn_soundly (s : State) : s.Soundly P s.emergencyOn := by
  have hpin := s.pins_soundly (P := P) { s.pins with emergencyStop := true }
  unfold State.emergencyOn
  simp only
  split
  · exact hpin
  · exact ((hpin.trans (State.line_soundly _ _)).trans (State.raise_soundly _ _ _ _)).trans (State.stopLine_soundly _)

/-- With an empty table nothing is fed or shredded. -/
theorem State.airLaw_of_empty (h : s.table = tableReset) : s.airLaw := by
  intro hin
  obtain ⟨i, hi, -⟩ := s.flammableInside_iff.mp hin
  rw [State.Inside, h] at hi
  rcases hi with hi | hi <;> cases hi

theorem State.clearLine_soundly (s : State) : s.Soundly P s.clearLine := .of_air rfl fun _ => State.airLaw_of_empty rfl

theorem State.deviceReset_soundly (s : State) (a : BitVec 5) (f x : Bool) : s.Soundly P (s.deviceReset a f x) :=
  ⟨fun _ => State.reset_limitLaw.of_settings rfl, fun _ _ => State.airLaw_of_empty rfl⟩

theorem State.itemEffect_soundly (s : State) (i : Item) : s.Soundly P (s.itemEffect i) := by
  unfold State.itemEffect State.newPeriod
  split
  · split
    · exact .refl s
    · split <;> exact .of_same rfl rfl rfl
  · split
    · exact .of_same rfl rfl rfl
    · split
      · exact .of_same rfl rfl rfl
      · exact .ite fun _ => s.feederPass_soundly

theorem State.periodExpired_soundly (s : State) : s.Soundly P s.periodExpired := .ite fun _ => .of_same rfl rfl rfl

theorem State.pwmPeriodEnded_soundly (s : State) : s.Soundly P s.pwmPeriodEnded := .ite fun _ => .of_same rfl rfl rfl

theorem State.onTimeEnded_soundly (s : State) : s.Soundly P s.onTimeEnded := .ite fun _ => .of_same rfl rfl rfl

theorem State.idle_soundly (s : State) : s.Soundly P s.idle := by
  unfold State.idle
  split <;> exact .of_same rfl rfl rfl

end Line

/-! ### The owners of the requests (R184) -/

/-- An owner whose answer keeps both laws, that of AIR where the blocks agree. -/
def SoundOwner (owner : State → State × Answer) : Prop :=
  ∀ (P : Prop) (s : State), (P → s.Agrees) → s.Soundly P (owner s).1

section Owners

variable {owner : State → State × Answer}

theorem Acts.sound {Q : State → State → Prop} (h : Acts owner Q) (hQ : ∀ (P : Prop) s t, (P → s.Agrees) → Q s t → s.Soundly P t) :
    SoundOwner owner := by
  intro P s hs
  rcases h s with ⟨he, -⟩ | ⟨-, hq⟩
  · rw [he]; exact .refl s
  · exact hQ P s _ hs hq

theorem Acts.sound_reads (h : Acts owner fun s t => t = s) : SoundOwner owner := h.sound fun _ s _ _ ht => ht ▸ .refl s

theorem ansAdmit_sound (id : Word) (dc : Byte) (c : Word) (fcc fac : Byte) : SoundOwner (ansAdmit id dc c fcc fac) := by
  refine (ansAdmit_acts id dc c fcc fac).sound ?_
  rintro P s t hs ⟨i, d, fc, fa, -, -, hr, rfl⟩
  exact .of_cooler_if (fun hp => State.enrol_cooler ((hs hp).empty_outside hr) _) rfl rfl

theorem ansWithdraw_sound (id : Word) : SoundOwner (ansWithdraw id) := by
  refine (ansWithdraw_acts id).sound ?_
  rintro P s t - ⟨i, r, -, -, rfl⟩
  have hframe : CloseFrame s ((s.modRecord i fun r => { r with foamVerdict := some .notShredded }).closeSlot i) :=
    CloseFrame.trans (t := s.modRecord i _) rfl (State.closeSlot_frame _ i)
  have hclose : s.Soundly P ((s.modRecord i fun r => { r with foamVerdict := some .notShredded }).closeSlot i) :=
    .of_cooler (s.withdrawClosed_cooler i) (by rw [hframe]) (by rw [hframe])
  unfold State.withdrawSlot
  simp only
  split
  · exact hclose.trans (State.judgePermit_soundly _)
  · exact hclose

theorem ansRelease_sound (id : Word) : SoundOwner (ansRelease id) := by
  refine (ansRelease_acts id).sound ?_
  rintro P s t - ⟨i, r, -, -, rfl⟩
  exact State.Soundly.trans (t := s.release i) (.of_cooler (s.release_cooler i) rfl rfl) (State.judgeIdle_soundly _)

theorem ansTakeClosed_sound (tag : Byte) : SoundOwner (ansTakeClosed tag) := by
  refine (ansTakeClosed_acts tag).sound ?_
  rintro P s t - (rfl | rfl)
  · exact .refl t
  · exact .of_cooler (s.takeClosed_cooler tag) rfl rfl

theorem ansBegin_sound (id : Word) (station : Byte) : SoundOwner (ansBegin id station) := by
  refine (ansBegin_acts id station).sound ?_
  rintro P s t - ⟨n, i, r, -, -, -, -, -, rfl⟩
  exact .of_stations (s.beginAttempt_frame n i) (s.beginAttempt_cooler n i)

theorem ansFeedClear_sound : SoundOwner ansFeedClear := by
  refine ansFeedClear_acts.sound ?_
  rintro P s t - ⟨-, rfl⟩
  exact State.Soundly.trans (.ite fun _ => s.feedEvent_soundly _ _) (State.freeJam_soundly _)

theorem ansTripReset_sound : SoundOwner ansTripReset := by
  refine ansTripReset_acts.sound ?_
  rintro P s t - ⟨-, rfl⟩
  exact State.Soundly.trans (t := s.recover) (.of_air rfl fun _ _ => nofun) (State.judgePermit_soundly _)

/-- SET CONFIG takes a legal value, clamped (R84, R149, R189). -/
theorem ansSetConfig_takes (item : Byte) (value : Word) : Acts (ansSetConfig item value) fun s t => ∃ i,
    dividerLegal i value.toNat = true ∧ t = (s.setItem i (s.takenValue i value.toNat)).itemEffect i := by
  intro s
  unfold ansSetConfig
  split
  · exact .refuse rfl
  split
  case isTrue hd => exact .act rfl ⟨_, hd, rfl⟩ (.inl rfl)
  case isFalse => exact .refuse rfl

theorem ansSetConfig_sound (item : Byte) (value : Word) : SoundOwner (ansSetConfig item value) := by
  refine (ansSetConfig_takes item value).sound ?_
  rintro P s t - ⟨i, hd, rfl⟩
  have hitem : s.Soundly P (s.setItem i (s.takenValue i value.toNat)) := ⟨fun h => h.setItem hd, fun _ => id⟩
  exact hitem.trans (State.itemEffect_soundly _ i)

/-- Every owner of the catalogue keeps both laws. -/
theorem IsOwner.sound (h : IsOwner owner) : SoundOwner owner := by
  cases h with
  | admission => exact ansAdmit_sound _ _ _ _ _
  | query => exact (ansQuery_acts _ _).sound_reads
  | listTable => exact ansListTable_acts.sound_reads
  | withdraw => exact ansWithdraw_sound _
  | release => exact ansRelease_sound _
  | takeClosed => exact ansTakeClosed_sound _
  | beginAttempt => exact ansBegin_sound _ _
  | abort => exact (ansAbort_acts _).sound fun _ s _ _ ⟨n, _, _, ht⟩ => ht ▸ s.abort_soundly n _
  | waive => exact (ansWaive_acts _).sound fun _ s _ _ ⟨i, _, _, _, ht⟩ => ht ▸ .of_cooler (s.modRecord_cooler i _) rfl rfl
  | clearStation => exact (ansClearStation_acts _).sound fun _ _ _ _ ⟨_, _, _, ht⟩ => ht ▸ .of_same rfl rfl rfl
  | receiverChanged => exact (ansReceiverChanged_acts _).sound fun _ _ _ _ ⟨_, _, _, ht⟩ => ht ▸ .of_same rfl rfl rfl
  | readStation => exact (ansReadStation_acts _).sound fun _ s _ _ ⟨_, _, ht⟩ => ht ▸ .refl s
  | feedClear => exact ansFeedClear_sound
  | feedReturn => exact ansFeedReturn_acts.sound fun _ s _ _ ⟨_, ht⟩ => ht ▸ s.returnToHead_soundly.trans (State.freeJam_soundly _)
  | holdOn => exact ansHoldOn_acts.sound fun _ _ _ _ ht => ht ▸ .of_same rfl rfl rfl
  | holdOff => exact ansHoldOff_acts.sound fun _ _ _ _ ht => ht ▸ .of_same rfl rfl rfl
  | tripReset => exact ansTripReset_sound
  | drainBegin => exact ansDrainBegin_acts.sound fun _ _ _ _ ⟨_, ht⟩ => ht ▸ .of_same rfl rfl rfl
  | drainEnd => exact ansDrainEnd_acts.sound fun _ _ _ _ ⟨_, ht⟩ => ht ▸ .of_same rfl rfl rfl
  | setConfig => exact ansSetConfig_sound _ _
  | readConfig => exact ansReadConfig_acts.sound_reads
  | setChannel => exact (ansSetChannel_acts _ _ _ _ _ _).sound fun _ _ _ _ ⟨_, _, ht⟩ => ht ▸ .of_same rfl rfl rfl
  | readChannel => exact (ansReadChannel_acts _).sound_reads
  | setSource => exact (ansSetSource_acts _ _).sound fun _ _ _ _ ⟨_, ht⟩ => ht ▸ .of_same rfl rfl rfl
  | setMask => exact (ansSetMask_acts _ _).sound fun _ _ _ _ ⟨_, ht⟩ => ht ▸ .of_same rfl rfl rfl
  | takeNotices => exact (ansTakeNotices_acts _).sound fun _ _ _ _ ⟨_, ht⟩ => ht ▸ .of_same rfl rfl rfl
  | readStatus => exact ansReadStatus_acts.sound_reads
  | readTotals => exact ansReadTotals_acts.sound_reads
  | clearTotals => exact ansClearTotals_acts.sound fun _ _ _ _ ht => ht ▸ .of_same rfl rfl rfl
  | lineRun => exact ansLineRun_acts.sound fun _ s _ _ ht => ht ▸ s.setLine_soundly _
  | lineHold => exact ansLineHold_acts.sound fun _ s _ _ ht => ht ▸ s.setLine_soundly _
  | lineStop => exact ansLineStop_acts.sound fun _ s _ _ ht => ht ▸ s.stopLine_soundly
  | lineResume => exact ansLineResume_acts.sound fun _ s _ _ ht => ht ▸ s.setLine_soundly _
  | clearLine => exact ansClearLine_acts.sound fun _ s _ _ ⟨_, ht⟩ => ht ▸ s.clearLine_soundly
  | badKind => exact badKind_acts.sound_reads
  | badLength => exact (ansBadLength_acts _).sound_reads

end Owners

/-! ### Every command and every step -/

theorem State.link_soundly {P : Prop} (s : State) (l : Link) : s.Soundly P { s with link := l } := .of_same rfl rfl rfl

theorem SerialMove.soundly {P : Prop} {s t : State} (h : SerialMove s t) (hs : P → s.Agrees) : s.Soundly P t := by
  cases h with
  | link l => exact s.link_soundly l
  | error l e => exact .of_same rfl rfl rfl
  | request k g ho => exact ((s.link_soundly _).trans (ho.sound P _ fun hp => (hs hp).withLink _)).trans (State.link_soundly _ _)
  | broadcast ho => exact (s.link_soundly _).trans (ho.sound P _ fun hp => (hs hp).withLink _)

/-- Every command keeps both laws, that of AIR where the blocks agree. -/
theorem exec_soundly {P : Prop} (c : Instr) (s t : State) (hs : P → s.Agrees) (ht : exec c s = .next t) : s.Soundly P t := by
  cases hc : onLine c with
  | true => exact (exec_serial c s t hc ht).soundly hs
  | false =>
    cases c
    case deviceReset => cases ht; exact s.deviceReset_soundly _ _ _
    case clampClosedTrue n => cases ht; exact s.clampClosed_soundly n
    case clampOpened n => cases ht; exact s.clampOpen_soundly n
    case clampTimeout n => cases ht; exact .ite fun _ => s.faultUnpierced_soundly n _
    case scaleUnsettled n => cases ht; exact .ite fun _ => s.faultUnpierced_soundly n _
    case tPierceExpiry n => cases ht; exact s.pierceExpired_soundly n
    case probe n p => cases ht; exact State.probeExpired_soundly hs n p
    case tEvacExpiry n p => cases ht; exact State.evacExpired_soundly hs n p
    case tRiseExpiry n => cases ht; exact s.riseExpired_soundly n
    case tDrainExpiry n => cases ht; exact s.drainExpired_soundly n
    case weighingSettleTimeout n => cases ht; exact s.settleExpired_soundly n
    case gateClosedFalse => cases ht; exact s.gateOpened_soundly
    case gateClosedTrue => cases ht; exact s.gateShut_soundly
    case tOpenExpiry => cases ht; exact s.openExpired_soundly
    case tPassExpiry => cases ht; exact s.passExpired_soundly
    case tCloseExpiry => cases ht; exact s.closeExpired_soundly
    case feedCapture => cases ht; exact s.beamCleared_soundly
    case shredderRunningChange b => cases ht; exact s.shredderRuns_soundly b
    case emergencyStopAsserted => cases ht; exact s.emergencyOn_soundly
    case emergencyStopReleased => cases ht; exact .of_same rfl rfl rfl
    case flowEdge => cases ht; exact .of_same rfl rfl rfl
    case atmospherePeriodExpiry => cases ht; exact s.periodExpired_soundly
    case groupAConversion r => cases ht; exact s.groupAConverted_soundly r
    case groupBPassCompletion raw first a => cases ht; exact s.passCompleted_soundly raw first a
    case attributionTick => cases ht; exact s.tickStep_soundly
    case pwmPeriodEnd => cases ht; exact s.pwmPeriodEnded_soundly
    case purgeOnTimeEnd => cases ht; exact s.onTimeEnded_soundly
    all_goals cases hc

theorem step_soundly {P : Prop} (s t : State) (hs : P → s.Agrees) (ht : step s = .next t) : s.Soundly P t := by
  unfold step at ht
  split at ht
  · cases ht
    exact s.idle_soundly
  case h_2 rest _ =>
    have hrest : s.Soundly P { s with pending := rest } := .of_same rfl rfl rfl
    exact hrest.trans (exec_soundly _ _ t (fun hp => (hs hp).of_same ⟨rfl, rfl, rfl, rfl, rfl, rfl⟩) ht)

/-- Settles O7: a value is clamped to its range and by the order, and no other step changes an item. -/
theorem limitLawKept : Obligations.LimitLawKept := fun s t h ht => (step_soundly (P := False) s t nofun ht).limits h

/-- Settles O11: AIR is entered without demand alone, and in AIR the permit lets no FLAMMABLE record in. -/
theorem airLawKept : Obligations.AirLawKept := by
  rintro s t ⟨hs, hair⟩ ht
  exact ⟨consistencyKept s t hs ht, (step_soundly (P := s.Agrees) s t id ht).air (s.consistent_iff.mp hs) hair⟩

end Sys2Proof.Machine
end

section
/-! The requests of the drain and of the atmosphere (R85, R89, R107, R108). -/

namespace Sys2Proof.Machine

/-! ### DRAIN BEGIN and DRAIN END (R107, R108) -/

section Drains

variable {s : State} {tag : Byte}

/-- With a drain open, DRAIN BEGIN is out of phase and DRAIN END ends it. -/
theorem exec_drain_active (hrx : s.link.rx ≠ .replying) (h : s.foam.drain = .active) :
    exec (.drainBegin tag) s = .next (s.replied 18 tag (bare .wrongPhase))
      ∧ exec (.drainEnd tag) s
        = .next (State.replied { s with foam := { s.foam with drain := .ended, baseline := none } } 19 tag (bare .done)) := by
  refine ⟨next_request hrx ?_, next_request hrx ?_⟩
  · simp only [ansDrainBegin, h]
  · simp only [ansDrainEnd, h]

/-- Without a drain DRAIN BEGIN starts one at the baseline. -/
theorem exec_drainBegin_noDrain (hrx : s.link.rx ≠ .replying) (h : s.foam.drain = .noDrain) : exec (.drainBegin tag) s
    = .next (State.replied { s with foam := { s.foam with drain := .active, drainStart := s.foam.baseline } } 18 tag
      (bare .done)) := by
  refine next_request hrx ?_
  simp only [ansDrainBegin, h]

/-- An unsettled drain is resumed by DRAIN BEGIN. -/
theorem exec_drainBegin_ended (hrx : s.link.rx ≠ .replying) (h : s.foam.drain = .ended) : exec (.drainBegin tag) s
    = .next (State.replied { s with foam := { s.foam with drain := .active } } 18 tag (bare .done)) := by
  refine next_request hrx ?_
  simp only [ansDrainBegin, h]

theorem exec_drainEnd_refused (hrx : s.link.rx ≠ .replying) (h : s.foam.drain ≠ .active) :
    exec (.drainEnd tag) s = .next (s.replied 19 tag (bare .wrongPhase)) := by
  refine next_request hrx ?_
  cases hd : s.foam.drain with
  | active => exact absurd hd h
  | noDrain => simp only [ansDrainEnd, hd]
  | ended => simp only [ansDrainEnd, hd]

end Drains

/-! ### TRIP RESET (R73, R89) -/

section TripReset

variable {s : State} {tag : Byte}

/-- The latest readings allow a TRIP RESET: O2 and LFL fit and both channels are healthy (R89). -/
def State.mayRecover (s : State) : Bool := s.atm.latest.any fun r => s.o2Fits r && s.lflFits r && r.healthy

theorem State.mayRecover_iff : s.mayRecover = true ↔ ∃ r, s.atm.latest = some r ∧ r.o2 ≤ (s.item iLInert : Int)
    ∧ r.lfl ≤ (s.item iLFeed : Int) ∧ r.o2Status = .ok ∧ r.lflStatus = .ok := by
  simp only [State.mayRecover, State.o2Fits, State.lflFits, AtmReadings.healthy, Option.any_eq_true, Bool.and_eq_true,
    decide_eq_true_eq, beq_iff_eq, and_assoc]

theorem ansTripReset_tripped (h : s.atm.state = .tripped) : ansTripReset s
    = if s.mayRecover then (s.recover.judgePermit, bare .done) else (s, bare .tripConditions) := by
  unfold ansTripReset State.mayRecover
  rw [if_neg (not_not.mpr h)]
  cases s.atm.latest <;> rfl

theorem exec_tripReset_untripped (hrx : s.link.rx ≠ .replying) (h : s.atm.state ≠ .tripped) :
    exec (.tripReset tag) s = .next (s.replied 17 tag (bare .wrongPhase)) := next_request hrx (if_pos h)

theorem exec_tripReset_refused (hrx : s.link.rx ≠ .replying) (h : s.atm.state = .tripped) (hr : s.mayRecover = false) :
    exec (.tripReset tag) s = .next (s.replied 17 tag (bare .tripConditions)) := by
  refine next_request hrx ?_
  have hr' : s.asked.mayRecover = false := hr
  rw [ansTripReset_tripped (s := s.asked) h, hr', if_neg Bool.false_ne_true]

theorem exec_tripReset_taken (hrx : s.link.rx ≠ .replying) (h : s.atm.state = .tripped) (hr : s.mayRecover = true) :
    exec (.tripReset tag) s = .next (s.recover.judgePermit.replied 17 tag (bare .done)) := by
  refine next_request hrx ?_ (by rw [s.recover.judgePermit_frame]; rfl)
  have hr' : s.asked.mayRecover = true := hr
  rw [ansTripReset_tripped (s := s.asked) h, if_pos hr']
  exact congrArg (·, bare .done) (s.recover.judgePermit_link s.link.accept)

end TripReset

/-- Settles O58: each request by the state of the drain or of the controller. -/
theorem drainsHoldAndTripReset : Obligations.DrainsHoldAndTripReset := by
  refine ⟨fun s tag hrx => ⟨exec_drain_active hrx, exec_drainBegin_noDrain hrx, exec_drainBegin_ended hrx,
    exec_drainEnd_refused hrx⟩, fun s tag hrx => ⟨next_request hrx rfl, next_request hrx rfl, exec_tripReset_untripped hrx,
    fun ht fits hfits => ?_⟩⟩
  rw [← State.mayRecover_iff] at hfits
  refine ⟨fun hf => exec_tripReset_refused hrx ht ?_, fun hf => exec_tripReset_taken hrx ht (hfits.mp hf)⟩
  exact Bool.eq_false_iff.mpr (mt hfits.mpr hf)

end Sys2Proof.Machine
end

section
/-! SET CONFIG (R84, R140, R142, R149, R189). -/

namespace Sys2Proof.Machine

section SetConfig

variable {s : State} {tag item : Byte} {value : Word} {i : Item}

/-! ### The item and the value (R84, R149, R189) -/

theorem itemOf_none (h : item.toNat = 0 ∨ 44 < item.toNat) : itemOf item = none := dif_neg (by omega)

theorem itemOf_some (h : item.toNat = i.val + 1) : itemOf item = some i := by
  have hrange : 1 ≤ item.toNat ∧ item.toNat ≤ 44 := by omega
  rw [itemOf, dif_pos hrange]
  exact congrArg some (Fin.ext (by simp [h]))

/-- An item answered by its number is answered by the character of the request (R189). -/
theorem char1_item (h : item.toNat = i.val + 1) : char1 (i.val + 1) = [item] := by
  rw [← h, char1, BitVec.ofNat_toNat, BitVec.setWidth_eq]

theorem dividerLegal_iff {x : Nat} : dividerLegal i x = true ↔ (i = iDivider → x = 1 ∨ x = 4 ∨ x = 16) := by
  rw [dividerLegal, Bool.or_assoc, Bool.or_assoc]
  simp only [Bool.or_eq_true, bne_iff_ne, beq_iff_eq, ne_eq, ← imp_iff_not_or]

theorem clampNat_eq {lo hi : Nat} (h : lo ≤ hi) (x : Nat) : clampNat lo hi x = max lo (min hi x) := by
  unfold clampNat
  split
  · omega
  · split <;> omega

theorem State.takenValue_eq (s : State) (i : Item) (x : Nat) :
    s.takenValue i x = s.orderClamp i (max (itemRow i).lo (min (itemRow i).hi x)) := by
  rw [State.takenValue, clampNat_eq (itemRow_range i)]

/-! ### What an item restarts (R73, R82, R140, R142, R149) -/

theorem State.itemEffect_other (ha : i ≠ iPa) (hk : i ≠ iK) (hd : i ≠ iDivider) (hv : i ≠ iVHigh) (s : State) :
    s.itemEffect i = s := by
  simp only [State.itemEffect, ha, hk, hd, hv, if_false]

theorem State.itemEffect_iPa (s : State) : s.itemEffect iPa = s.newPeriod := rfl

theorem State.itemEffect_iK (s : State) : s.itemEffect iK = { s with period := { s.period with postscaler := 0 } } := rfl

theorem State.itemEffect_iDivider (s : State) : s.itemEffect iDivider
    = { s with flow := { s.flow with edges := 0, latest := none, previous := none, unused := false } } := rfl

theorem State.itemEffect_iVHigh (s : State) : s.itemEffect iVHigh = s.judgeVessel.judgePermit := rfl

/-- A new Pa neither reads nor changes the link. -/
theorem State.newPeriod_link (s : State) (l : Link) : State.newPeriod { s with link := l } = { s.newPeriod with link := l } := by
  by_cases he : s.period.lastExpiry = some s.clock
  · rw [State.newPeriod_after_expiry he, State.newPeriod_after_expiry (s := { s with link := l }) he]
  · rcases Nat.lt_or_ge (elapsed s.period.base s.clock) (s.item iPa) with hp | hp
    · rw [State.newPeriod_pending he hp, State.newPeriod_pending (s := { s with link := l }) he hp]
      rfl
    · rw [State.newPeriod_passed he hp, State.newPeriod_passed (s := { s with link := l }) he hp]
      rfl

/-- No item's effect reads or changes the link. -/
theorem State.itemEffect_link (s : State) (l : Link) (i : Item) :
    State.itemEffect { s with link := l } i = { s.itemEffect i with link := l } := by
  by_cases ha : i = iPa
  · subst ha
    exact s.newPeriod_link l
  by_cases hv : i = iVHigh
  · subst hv
    exact s.judgeVessel.judgePermit_link l
  · simp only [State.itemEffect, if_neg ha, if_neg hv]
    split
    · rfl
    · split <;> rfl

/-! ### The request (R189) -/

theorem exec_setConfig_refused (hrx : s.link.rx ≠ .replying)
    (h : item.toNat = 0 ∨ 44 < item.toNat ∨ item.toNat = 34 ∧ value.toNat ≠ 1 ∧ value.toNat ≠ 4 ∧ value.toNat ≠ 16) :
    exec (.setConfig tag item value) s = .next (s.replied 20 tag (bare .badField)) := by
  refine next_request hrx ?_
  by_cases hn : item.toNat = 0 ∨ 44 < item.toNat
  · rw [ansSetConfig, itemOf_none hn]
  · have hdiv : item.toNat = iDivider.val + 1 ∧ value.toNat ≠ 1 ∧ value.toNat ≠ 4 ∧ value.toNat ≠ 16 := by
      rw [← or_assoc] at h
      exact h.resolve_left hn
    obtain ⟨hitem, h1, h4, h16⟩ := hdiv
    have hbad : dividerLegal iDivider value.toNat = false := by
      simp [dividerLegal, h1, h4, h16]
    rw [ansSetConfig, itemOf_some hitem]
    simp only [hbad, Bool.false_eq_true, if_false]

/-- A legal value is taken as the clamps leave it, with the item's effect. -/
theorem exec_setConfig_taken (hrx : s.link.rx ≠ .replying) (hi : item.toNat = i.val + 1)
    (hd : dividerLegal i value.toNat = true) : exec (.setConfig tag item value) s
    = .next (((s.setItem i (s.takenValue i value.toNat)).itemEffect i).replied 20 tag
      ⟨.done, decide (s.takenValue i value.toNat ≠ value.toNat), item :: num4 (s.takenValue i value.toNat)⟩) := by
  have hlink (l : Link) := (s.setItem i (s.takenValue i value.toNat)).itemEffect_link l i
  have hkept := congrArg State.link (hlink s.link)
  refine next_request hrx ?_ hkept
  rw [ansSetConfig, itemOf_some hi]
  simp only [hd, if_true, char1_item hi]
  exact Prod.ext (hlink s.link.accept) rfl

end SetConfig

/-- Settles O59: the two refusals, and a value taken by what its item restarts. -/
theorem setConfig : Obligations.SetConfig := by
  refine fun s tag item value hrx => ⟨exec_setConfig_refused hrx, ?_⟩
  intro i v w t hi hdiv hw hv ht a ha
  have htaken : s.takenValue i value.toNat = v := by rw [s.takenValue_eq, ← hw, hv, State.orderClamp]
  have hexec := exec_setConfig_taken (tag := tag) hrx hi (dividerLegal_iff.mpr hdiv)
  rw [htaken, ← ha, show s.setItem i v = t from ht.symm] at hexec
  have hitem (hscale : (itemRow i).scale = 1) : t.item i = v := by
    rw [ht]
    exact (s.setItem_unscaled hscale v i).trans (if_pos rfl)
  refine ⟨fun hPa hK hD hV => ?_, fun hK => ?_, fun hD => ?_, fun hV => ?_, fun hPa he => ?_, fun hPa he last hlast => ?_⟩
  · rwa [State.itemEffect_other hPa hK hD hV] at hexec
  · subst hK
    rw [hexec, State.itemEffect_iK, ht]
  · subst hD
    rw [hexec, State.itemEffect_iDivider, ht]
  · subst hV
    rw [State.itemEffect_iVHigh, State.judgeVessel_eq, hitem rfl] at hexec
    rw [hexec, ht]
    rfl
  · have hstands : t.newPeriod = t := State.newPeriod_after_expiry (by rw [ht]; exact he)
    subst hPa
    rwa [State.itemEffect_iPa, hstands] at hexec
  · subst hPa
    have hlate : t.period.lastExpiry ≠ some t.clock := by rw [ht]; exact he
    have hsince : elapsed t.period.base t.clock = (s.clock - last).toNat := by rw [ht, hlast]; rfl
    have hK : t.item iK = s.item iK := by rw [ht]; exact s.setItem_item iPa iK v
    rw [State.itemEffect_iPa] at hexec
    refine ⟨fun hp => ?_, fun hp => ?_⟩
    · rw [hexec, State.newPeriod_pending hlate (by rwa [hsince, hitem rfl]), hitem rfl, ht, hlast]
      rfl
    · rw [hexec, State.newPeriod_passed hlate (by rwa [hsince, hitem rfl]), State.periodExpire, hitem rfl, hK, ht]
      simp only [after, decide_eq_true_eq]

end Sys2Proof.Machine
end

section
/-! The Atmosphere Controller's part of a pass (R83 to R91): what its moves make of the state, the transitions without a trip and
the supervision of the nitrogen flow. -/

namespace Sys2Proof.Machine

section Pass

variable {s : State}

/-! ### A pass in its parts -/

/-- The controller's moves with the judgement of the permit that a change of its state brings (R73). -/
def State.atmMoved (s : State) : State :=
  if s.atmMoves.atm.state = s.atm.state then s.atmMoves else s.atmMoves.judgePermit

theorem State.atmMoved_gate (s : State) : GateFrame s.atmMoves s.atmMoved := by
  unfold State.atmMoved
  split
  · exact .refl _
  · exact State.judgePermit_frame _

theorem State.atmMoved_frame (s : State) : MovesFrame s s.atmMoved := s.atmMoves_frame.gate s.atmMoved_gate

theorem State.atmMoved_atm (s : State) : s.atmMoved.atm = s.atmMoves.atm := by rw [s.atmMoved_gate]

/-- The duty of a pass, formed from the state the controller has moved to (R90). -/
def State.passDuty (s : State) : Nat :=
  dutyOf s.atmMoves.atm.state s.readingsNow.o2 (s.item iKp) (s.item iBase) (s.item iO2Set)

/-- The controller after a pass: its moves, the duty and the supervision (R90, R91). -/
theorem State.atmospherePass_atm (s : State) : s.atmospherePass.atm
    = { s.atmMoves.atm with duty := s.passDuty }.supervise s.clock (s.item iTNf) s.flowRate (s.item iFMin) := by
  have hpass : s.atmospherePass.atm = { s.atmMoved.atm with
      duty := dutyOf s.atmMoved.atm.state s.readingsNow.o2 (s.atmMoved.item iKp) (s.atmMoved.item iBase)
        (s.atmMoved.item iO2Set) }.supervise s.atmMoved.clock (s.atmMoved.item iTNf) s.atmMoved.flowRate
        (s.atmMoved.item iFMin) := rfl
  have hclock : s.atmMoved.clock = s.clock := by rw [s.atmMoved_frame]
  have hflow : s.atmMoved.flowRate = s.flowRate := by rw [s.atmMoved_frame]; rfl
  have hitem : s.atmMoved.item = s.item := by rw [s.atmMoved_frame]; rfl
  rw [hpass, hclock, hflow, hitem, s.atmMoved_atm, State.passDuty]

/-- PURGE_NO_FLOW is reported after what the moves report (R91). -/
theorem State.atmospherePass_arb (s : State) : s.atmospherePass.arb
    = s.atmMoves.arb.report s.clock srcNoFlow s.atmospherePass.atm.noFlow none (some (.number s.flowRate)) := by
  have hpass : s.atmospherePass.arb = s.atmMoved.arb.report s.atmMoved.clock srcNoFlow s.atmospherePass.atm.noFlow none
    (some (.number s.atmMoved.flowRate)) := rfl
  have hclock : s.atmMoved.clock = s.clock := by rw [s.atmMoved_frame]
  have hflow : s.atmMoved.flowRate = s.flowRate := by rw [s.atmMoved_frame]; rfl
  have harb : s.atmMoved.arb = s.atmMoves.arb := by rw [s.atmMoved_gate]
  rw [hpass, hclock, hflow, harb]

theorem State.atmospherePass_table (s : State) : s.atmospherePass.table = s.atmMoved.table := rfl

theorem State.atmospherePass_feeder (s : State) : s.atmospherePass.feeder = s.atmMoved.feeder := rfl

/-! ### What the supervision and the moves leave of the controller -/

/-- The supervision changes the high-duty interval and the no-flow condition alone (R91). -/
theorem Atmosphere.supervise_frame (a : Atmosphere) (now : Time) (l f m : Nat) : a.supervise now l f m = { a with
    highDutyStart := (a.supervise now l f m).highDutyStart, highDutyLength := (a.supervise now l f m).highDutyLength
    noFlow := (a.supervise now l f m).noFlow } := by
  unfold Atmosphere.supervise
  split
  · rfl
  · split
    · rfl
    · split <;> rfl

theorem State.runHold_atm (s : State) (x : AtmState) : (s.runHold x).atm = { s.atm with
    state := (s.runHold x).atm.state, holdStart := (s.runHold x).atm.holdStart
    holdLength := (s.runHold x).atm.holdLength, marginLost := (s.runHold x).atm.marginLost } := by
  unfold State.runHold
  split
  · rfl
  · split <;> rfl

/-- A transition changes the state, the hold and the margin of the controller alone (R88, R89). -/
theorem State.atmTransition_atm (s : State) (r : AtmReadings) (d : Bool) : (s.atmTransition r d).atm = { s.atm with
    state := (s.atmTransition r d).atm.state, holdStart := (s.atmTransition r d).atm.holdStart
    holdLength := (s.atmTransition r d).atm.holdLength, marginLost := (s.atmTransition r d).atm.marginLost } := by
  unfold State.atmTransition
  simp only
  split
  · split <;> rfl
  · split
    · rfl
    · split
      · exact s.runHold_atm _
      · rfl
  · split
    · rfl
    · split <;> rfl
  · split
    · exact s.runHold_atm _
    · rfl
  · rfl

theorem State.enterTripped_atm (s : State) (c : TripCauses) : (s.enterTripped c).atm = { s.atm with
    state := .tripped, tripCauses := some c, holdStart := none, holdLength := none, marginLost := false } := by
  rw [s.enterTripped_frame]
  rfl

/-- The three outcomes of a pass: it stays TRIPPED, it trips, or it makes a transition (R86 to R89). -/
theorem State.atmMoves_tripped (h : s.atm.state = .tripped) : s.atmMoves = s.atmReads := if_pos h

theorem State.atmMoves_trips (h : s.atm.state ≠ .tripped) (hc : (s.tripNow s.readingsNow s.demandNow).any = true) :
    s.atmMoves = s.atmReads.enterTripped (s.tripNow s.readingsNow s.demandNow) := (if_neg h).trans (if_pos hc)

theorem State.atmMoves_moves (h : s.atm.state ≠ .tripped) (hc : (s.tripNow s.readingsNow s.demandNow).any = false) :
    s.atmMoves = s.atmReads.atmTransition s.readingsNow s.demandNow :=
  (if_neg h).trans (if_neg (Bool.eq_false_iff.mp hc))

/-- The moves of a pass leave the high-duty interval and the no-flow condition (R91). -/
theorem State.atmMoves_supervised (s : State) : s.atmMoves.atm.highDutyStart = s.atm.highDutyStart
    ∧ s.atmMoves.atm.highDutyLength = s.atm.highDutyLength ∧ s.atmMoves.atm.noFlow = s.atm.noFlow := by
  unfold State.atmMoves
  split
  · exact ⟨rfl, rfl, rfl⟩
  · split
    · rw [State.enterTripped_atm]
      exact ⟨rfl, rfl, rfl⟩
    · rw [State.atmTransition_atm]
      exact ⟨rfl, rfl, rfl⟩

/-- A pass records the demand (R85). -/
theorem State.atmospherePass_demand (s : State) : s.atmospherePass.atm.demand = s.demandNow := by
  rw [s.atmospherePass_atm, Atmosphere.supervise_frame]
  show s.atmMoves.atm.demand = s.demandNow
  unfold State.atmMoves
  split
  · rfl
  · split
    · rw [State.enterTripped_atm]
      rfl
    · rw [State.atmTransition_atm]
      rfl

end Pass

/-! ### The nitrogen flow and its supervision (R91, R147, R148) -/

theorem max_one_elapsed (a b : Time) : max 1 (elapsed b a) = if a = b then 1 else (a - b).toNat := by
  split
  case isTrue h => simp [elapsed, h]
  case isFalse h =>
    have hpos : (a - b).toNat ≠ 0 := fun h0 => h (by bv_omega)
    exact max_eq_right (Nat.one_le_iff_ne_zero.mpr hpos)

/-- The flow from the latest interval, while it is not too old (R148). -/
theorem Flow.rate_some {x : Flow} {a b : Time} (ha : x.latest = some a) (hb : x.previous = some b) (divider q : Nat) (now : Time) :
    x.rate divider q now = if 5000 < (now - a).toNat then 0
      else min 65535 (divider * q * 60 / if a = b then 1 else (a - b).toNat) := by
  simp only [Flow.rate, ha, hb, max_one_elapsed]
  rfl

theorem Flow.rate_none {x : Flow} (h : x.previous = none) (divider q : Nat) (now : Time) : x.rate divider q now = 0 := by
  cases hl : x.latest <;> simp [Flow.rate, h, hl]

/-- The supervision by duty and high-duty interval (R91). -/
theorem Atmosphere.supervise_low {a : Atmosphere} (h : a.duty < 500) (now : Time) (l f m : Nat) :
    a.supervise now l f m = { a with highDutyStart := none, highDutyLength := none, noFlow := false } := if_pos h

theorem Atmosphere.supervise_starts {a : Atmosphere} (h : 500 ≤ a.duty) (hs : a.highDutyStart = none) (now : Time) (l f m : Nat) :
    a.supervise now l f m = { a with highDutyStart := some now, highDutyLength := some l } := by
  rw [Atmosphere.supervise, if_neg (Nat.not_lt.mpr h), hs]

theorem Atmosphere.supervise_runs {a : Atmosphere} {b : Time} {n : Nat} (h : 500 ≤ a.duty) (hs : a.highDutyStart = some b)
    (hn : a.highDutyLength = some n) (now : Time) (l f m : Nat) : a.supervise now l f m
    = { a with noFlow := if n ≤ (now - b).toNat then decide (f < m) else a.noFlow } := by
  rw [Atmosphere.supervise, if_neg (Nat.not_lt.mpr h), hs, hn]
  by_cases hlate : n ≤ (now - b).toNat
  · rw [if_pos hlate]
    exact if_pos hlate
  · rw [if_neg hlate]
    exact (if_neg hlate).trans (by rw [← hs, ← hn])

/-- Settles O52: the flow by its captures, then the supervision by the duty of the pass and its high-duty interval. -/
theorem nitrogenSupervision : Obligations.NitrogenSupervision := by
  refine ⟨fun x divider q now => ⟨fun h => x.rate_none h _ _ _, fun a b ha hb => ⟨fun h => ?_, fun h => ?_⟩⟩, ?_⟩
  · rw [Flow.rate_some ha hb, if_pos h]
  · rw [Flow.rate_some ha hb, if_neg (Nat.not_lt.mpr h)]
  intro s t f ht hf
  obtain ⟨hstart, hlength, hflow⟩ := s.atmMoves_supervised
  have hatm : t.atm = { s.atmMoves.atm with duty := s.passDuty }.supervise s.clock (s.item iTNf) f (s.item iFMin) := by
    rw [ht, s.atmospherePass_atm, hf]
    rfl
  have hduty : t.atm.duty = s.passDuty := by rw [hatm, Atmosphere.supervise_frame]
  rw [hduty]
  refine ⟨hf.symm, ?_, fun hlow => ?_, fun hhigh hnone => ?_, fun h l hhigh hs hl => ?_⟩
  · rw [ht, s.atmospherePass_read.frame]
  · rw [hatm, Atmosphere.supervise_low (a := { s.atmMoves.atm with duty := s.passDuty }) hlow]
    exact ⟨rfl, rfl, rfl⟩
  · rw [hatm, Atmosphere.supervise_starts (a := { s.atmMoves.atm with duty := s.passDuty }) hhigh (hstart.trans hnone)]
    exact ⟨rfl, rfl, hflow⟩
  · rw [hatm, Atmosphere.supervise_runs (a := { s.atmMoves.atm with duty := s.passDuty }) hhigh (hstart.trans hs) (hlength.trans hl), hflow]
    exact ⟨hstart.trans hs, hlength.trans hl, rfl⟩

end Sys2Proof.Machine
end

section
/-! The transitions of the Atmosphere Controller at a pass without a trip (R88, R89), row by row. -/

namespace Sys2Proof.Machine

section Transitions

variable {s : State} {r : AtmReadings} {d : Bool} {x : AtmState}

/-! ### Rows of the table (R88, R89) -/

theorem State.atmTransition_air_leaves (h : s.atm.state = .air) (hd : d = true ∨ s.lflFits r = false) :
    s.atmTransition r d = s.setAtm .inerting := by
  have hleaves : (d || !s.lflFits r) = true := by
    rcases hd with hd | hl
    · rw [hd, Bool.true_or]
    · rw [hl, Bool.not_false, Bool.or_true]
  simp only [State.atmTransition, h, hleaves, if_true]

theorem State.atmTransition_air_stays (h : s.atm.state = .air) (hd : d = false) (hl : s.lflFits r = true) :
    s.atmTransition r d = s := by
  simp only [State.atmTransition, h, hd, hl, Bool.not_true, Bool.or_self, Bool.false_eq_true, if_false]

theorem State.atmTransition_undemanded (h : s.atm.state = .inerting ∨ s.atm.state = .inert) (hd : d = false)
    (hl : s.lflFits r = true) : s.atmTransition r d = s.enterSafe .air := by
  rcases h with h | h <;> simp only [State.atmTransition, h, hd, hl, Bool.not_false, Bool.and_self, if_true]

theorem State.atmTransition_inerting_holds (h : s.atm.state = .inerting) (hd : d = true) (ho : s.o2Fits r = true)
    (hl : s.lflFits r = true) : s.atmTransition r d = s.runHold .inert := by
  simp only [State.atmTransition, h, hd, ho, hl, Bool.not_true, Bool.and_true, Bool.false_eq_true, if_false, if_true]

/-- A pass that fails while the demand or LFL keeps the atmosphere from AIR. -/
theorem fails_cases {o l : Bool} (hd : d = true ∨ l = false) (hf : o = false ∨ l = false) :
    (!d && l) = false ∧ (o && l) = false := by
  cases l
  · exact ⟨Bool.and_false _, Bool.and_false _⟩
  · exact ⟨by rw [hd.resolve_right nofun]; rfl, by rw [hf.resolve_right nofun]; rfl⟩

theorem State.atmTransition_inerting_fails (h : s.atm.state = .inerting) (hd : d = true ∨ s.lflFits r = false)
    (hf : s.o2Fits r = false ∨ s.lflFits r = false) : s.atmTransition r d = s.dropHold := by
  obtain ⟨hair, hhold⟩ := fails_cases hd hf
  simp only [State.atmTransition, h, hair, hhold, Bool.false_eq_true, if_false]

theorem State.atmTransition_inert_fails (h : s.atm.state = .inert) (hd : d = true ∨ s.lflFits r = false)
    (hf : s.o2Fits r = false ∨ s.lflFits r = false) :
    s.atmTransition r d = s.loseMargin (marginOf (s.o2Fits r) (s.lflFits r)) := by
  obtain ⟨hair, hhold⟩ := fails_cases hd hf
  simp only [State.atmTransition, h, hair, hhold, Bool.not_false, Bool.false_eq_true, if_false, if_true]

theorem State.atmTransition_inert_stays (h : s.atm.state = .inert) (hd : d = true) (ho : s.o2Fits r = true)
    (hl : s.lflFits r = true) : s.atmTransition r d = s := by
  simp only [State.atmTransition, h, hd, ho, hl, Bool.not_true, Bool.and_true, Bool.false_eq_true, if_false]

theorem State.atmTransition_recovering_holds (h : s.atm.state = .recovering) (ho : s.o2Fits r = true) (hl : s.lflFits r = true)
    (hr : r.healthy = true) : s.atmTransition r d = s.runHold (if d = true then .inert else .air) := by
  simp only [State.atmTransition, h, ho, hl, hr, Bool.and_self, if_true]

theorem State.atmTransition_recovering_fails (h : s.atm.state = .recovering)
    (hf : s.o2Fits r = false ∨ s.lflFits r = false ∨ r.healthy = false) : s.atmTransition r d = s.dropHold := by
  have hfit : (s.o2Fits r && s.lflFits r && r.healthy) = false := by
    rcases hf with ho | hl | hr
    · rw [ho]; rfl
    · rw [hl, Bool.and_false]; rfl
    · rw [hr, Bool.and_false]
  simp only [State.atmTransition, h, hfit, Bool.false_eq_true, if_false]

/-! ### The running hold (R88, R89) -/

/-- The copied T_hold has passed since the hold's start. -/
def State.HoldDone (s : State) : Prop :=
  ∃ h, s.atm.holdStart = some h ∧ s.atm.holdLength.getD 0 ≤ (s.clock - h).toNat

theorem State.runHold_starts (h : s.atm.holdStart = none) (x : AtmState) :
    s.runHold x = { s with atm := { s.atm with holdStart := some s.clock, holdLength := some (s.item iTHold) } } := by
  rw [State.runHold, h]

theorem State.runHold_done (h : s.HoldDone) (x : AtmState) : s.runHold x = s.enterSafe x := by
  obtain ⟨b, hb, hpassed⟩ := h
  rw [State.runHold, hb]
  exact if_pos hpassed

theorem State.runHold_runs (hs : s.atm.holdStart ≠ none) (h : ¬s.HoldDone) (x : AtmState) : s.runHold x = s := by
  obtain ⟨b, hb⟩ := Option.ne_none_iff_exists'.mp hs
  rw [State.runHold, hb]
  exact if_neg fun hpassed => h ⟨b, hb, hpassed⟩

end Transitions

/-! ### A pass without a trip -/

/-- `t` has the controller's state, margin and hold of `u`, and its notices with PURGE_NO_FLOW reported on top. -/
structure PassLeaves (noFlow : Arbiter → Arbiter) (t u : State) : Prop where
  state : t.atm.state = u.atm.state
  marginLost : t.atm.marginLost = u.atm.marginLost
  holdStart : t.atm.holdStart = u.atm.holdStart
  holdLength : t.atm.holdLength = u.atm.holdLength
  arb : t.arb = noFlow u.arb

/-- A pass that ends in a state with the margin as it was and reports PURGE_NO_FLOW alone. -/
def State.StaysIn (s : State) (noFlow : Arbiter → Arbiter) (t : State) (x : AtmState) : Prop :=
  t.atm.state = x ∧ t.atm.marginLost = s.atm.marginLost ∧ t.arb = noFlow s.arb

/-- A pass that ends in a state with no hold and the margin regained (R88). -/
def State.SafeIn (s : State) (noFlow : Arbiter → Arbiter) (t : State) (x : AtmState) : Prop :=
  t.atm.state = x ∧ t.atm.marginLost = false ∧ t.atm.holdStart = none
    ∧ t.arb = noFlow (s.arb.report s.clock srcMarginLost false none none)

section Leaves

variable {s t u : State} {noFlow : Arbiter → Arbiter} {x : AtmState}

theorem PassLeaves.stays (h : PassLeaves noFlow t u) (hx : u.atm.state = x) (hm : u.atm.marginLost = s.atm.marginLost := by rfl)
    (ha : u.arb = s.arb := by rfl) : s.StaysIn noFlow t x :=
  ⟨h.state.trans hx, h.marginLost.trans hm, h.arb.trans (congrArg noFlow ha)⟩

theorem PassLeaves.safe (h : PassLeaves noFlow t (s.atmReads.enterSafe x)) : s.SafeIn noFlow t x :=
  ⟨h.state, h.marginLost, h.holdStart, h.arb⟩

/-- A passing pass starts the hold, completes it or lets it run (R88, R89). -/
theorem PassLeaves.hold {done : Bool} (h : PassLeaves noFlow t (s.atmReads.runHold x)) (hdone : done = true ↔ s.HoldDone) :
    (s.atm.holdStart = none → s.StaysIn noFlow t s.atm.state ∧ t.atm.holdStart = some s.clock
      ∧ t.atm.holdLength = some (s.item iTHold))
    ∧ (done = true → s.SafeIn noFlow t x)
    ∧ (s.atm.holdStart ≠ none → done = false → s.StaysIn noFlow t s.atm.state ∧ t.atm.holdStart = s.atm.holdStart) := by
  refine ⟨fun hn => ?_, fun hd => ?_, fun hs hd => ?_⟩
  · rw [State.runHold_starts (s := s.atmReads) hn] at h
    exact ⟨h.stays rfl, h.holdStart, h.holdLength⟩
  · rw [State.runHold_done (s := s.atmReads) (hdone.mp hd)] at h
    exact h.safe
  · rw [State.runHold_runs (s := s.atmReads) hs fun hpassed => Bool.eq_false_iff.mp hd (hdone.mpr hpassed)] at h
    exact ⟨h.stays rfl, h.holdStart⟩

theorem State.atmospherePass_leaves (s : State)
    (hnf : ∀ a, noFlow a = a.report s.clock srcNoFlow s.atmospherePass.atm.noFlow none (some (.number s.flowRate))) :
    PassLeaves noFlow s.atmospherePass s.atmMoves := by
  refine ⟨?_, ?_, ?_, ?_, s.atmospherePass_arb.trans (hnf _).symm⟩
  all_goals rw [s.atmospherePass_atm, Atmosphere.supervise_frame]

/-- A pass that does not trip makes its transition. -/
theorem State.atmMoves_of_untripped (hs : s.atm.state ≠ .tripped) (ht : s.atmospherePass.atm.state ≠ .tripped) :
    s.atmMoves = s.atmReads.atmTransition s.readingsNow s.demandNow := by
  refine State.atmMoves_moves hs (Bool.eq_false_iff.mpr fun hc => ht ?_)
  rw [s.atmospherePass_atm, Atmosphere.supervise_frame, State.atmMoves_trips hs hc, State.enterTripped_atm]

end Leaves

/-- Settles O51: the moves of a pass without a trip are the transition's, taken row by row. -/
theorem atmosphereTransitions : Obligations.AtmosphereTransitions := by
  intro s t demand o2 lfl healthy done noFlow stays safe ht hs htn hnf hstays hsafe hdemand ho2 hlfl hhealthy hdone
  subst ht
  have hpass := s.atmospherePass_leaves hnf
  have hd : demand = s.demandNow := hdemand.trans s.atmospherePass_demand
  have ho : s.atmReads.o2Fits s.readingsNow = o2 := (Bool.eq_iff_iff.mpr (ho2.trans decide_eq_true_iff.symm)).symm
  have hl : s.atmReads.lflFits s.readingsNow = lfl := (Bool.eq_iff_iff.mpr (hlfl.trans decide_eq_true_iff.symm)).symm
  have hh : s.readingsNow.healthy = healthy := by
    rw [Bool.eq_iff_iff, hhealthy, AtmReadings.healthy, Bool.and_eq_true, beq_iff_eq, beq_iff_eq]
    rfl
  rw [State.atmMoves_of_untripped hs htn, ← hd] at hpass
  obtain rfl : stays = s.StaysIn noFlow s.atmospherePass := funext fun x => propext (hstays x)
  obtain rfl : safe = s.SafeIn noFlow s.atmospherePass := funext fun x => propext (hsafe x)
  have hold {x : AtmState} (hp : PassLeaves noFlow s.atmospherePass (s.atmReads.runHold x)) := hp.hold hdone
  subst ho hl hh
  refine ⟨fun hair => ⟨fun hf => ?_, fun hdn hfit => ?_⟩,
    fun hing => ⟨fun hdn hfit => ?_, fun hdy hfo hfl => ?_, fun hk hf => ?_⟩,
    fun hinert => ⟨fun hdn hfit => ?_, fun hk hf => ?_, fun hdy hfo hfl => ?_⟩,
    fun hrec => ⟨fun hfo hfl hok => ?_, fun hf => ?_⟩⟩
  case refine_1 =>
    rw [State.atmTransition_air_leaves (s := s.atmReads) hair hf] at hpass
    exact ⟨hpass.stays rfl, hpass.holdStart⟩
  case refine_2 =>
    rw [State.atmTransition_air_stays (s := s.atmReads) hair hdn hfit] at hpass
    exact hpass.stays hair
  case refine_3 =>
    rw [State.atmTransition_undemanded (s := s.atmReads) (.inl hing) hdn hfit] at hpass
    exact hpass.safe
  case refine_4 =>
    rw [State.atmTransition_inerting_holds (s := s.atmReads) hing hdy hfo hfl] at hpass
    exact hing ▸ hold hpass
  case refine_5 =>
    rw [State.atmTransition_inerting_fails (s := s.atmReads) hing hk hf] at hpass
    exact ⟨hpass.stays hing, hpass.holdStart⟩
  case refine_6 =>
    rw [State.atmTransition_undemanded (s := s.atmReads) (.inr hinert) hdn hfit] at hpass
    exact hpass.safe
  case refine_7 =>
    rw [State.atmTransition_inert_fails (s := s.atmReads) hinert hk hf] at hpass
    exact ⟨hpass.state, hpass.holdStart, hpass.marginLost, hpass.arb⟩
  case refine_8 =>
    rw [State.atmTransition_inert_stays (s := s.atmReads) hinert hdy hfo hfl] at hpass
    exact hpass.stays hinert
  case refine_9 =>
    rw [State.atmTransition_recovering_holds (s := s.atmReads) hrec hfo hfl hok] at hpass
    exact hrec ▸ hold hpass
  case refine_10 =>
    rw [State.atmTransition_recovering_fails (s := s.atmReads) hrec hf] at hpass
    exact ⟨hpass.stays hrec, hpass.holdStart⟩

end Sys2Proof.Machine
end

section
/-! A trip at a pass (R79, R86, R87): the Feeder's part under a trip, the flags of the open windows and the notices. -/

namespace Sys2Proof.Machine

section Tripped

variable {s : State} {i j : Slot} {c : JamCause}

/-! ### The Feeder while the controller is TRIPPED (R73, R79) -/

theorem State.permit_tripped (h : s.atm.state = .tripped) : s.permit = false :=
  Bool.eq_false_iff.mpr fun hp => State.permit_untripped hp h

/-- While TRIPPED the permit's judgement opens no gate. -/
theorem State.judgePermit_tripped_stays (h : s.atm.state = .tripped)
    (hq : s.feeder.state = .waitPermit → s.table.shredQueue ≠ []) : s.judgePermit = s := by
  by_cases hw : s.feeder.state = .waitPermit
  · rw [State.judgePermit_queue hw (hq hw), State.permit_tripped h]
    rfl
  · exact State.judgePermit_other hw

theorem State.judgePermit_tripped_table (h : s.atm.state = .tripped) : s.judgePermit.table = s.table := by
  by_cases hq : s.feeder.state = .waitPermit → s.table.shredQueue ≠ []
  · rw [State.judgePermit_tripped_stays h hq]
  · obtain ⟨hw, hempty⟩ := Classical.not_imp.mp hq
    rw [State.judgePermit_empty hw (not_not.mp hempty)]
    rfl

theorem State.feederToIdle_tripped_table (h : s.atm.state = .tripped) : s.feederToIdle.table = s.table := by
  rw [State.feederToIdle_eq]
  split
  · rfl
  · exact State.judgePermit_tripped_table (s := s.feederUntimed .waitPermit) h

theorem State.feederHalt_opening (h : s.feeder.state = .opening) (c : JamCause) : s.feederHalt c = s.returnToHead.feederToIdle := by
  rw [State.feederHalt, h]

theorem State.feederHalt_passing (h : s.feeder.state = .passing) (c : JamCause) : s.feederHalt c = s.enterJam c := by
  rw [State.feederHalt, h]

theorem State.feederHalt_other (ho : s.feeder.state ≠ .opening) (hp : s.feeder.state ≠ .passing) (c : JamCause) :
    s.feederHalt c = s := by
  unfold State.feederHalt
  split
  · exact absurd ‹_› ho
  · exact absurd ‹_› hp
  · rfl

/-- An opening Feeder that a trip reaches gives its appliance back and waits (R79). -/
theorem State.feederHalt_tripped_opening (h : s.atm.state = .tripped) (ho : s.feeder.state = .opening)
    (hf : s.table.feeding = some i) (c : JamCause) : s.feederHalt c = s.returnToHead.feederUntimed .waitPermit := by
  have hqueue : s.returnToHead.table.shredQueue ≠ [] := by simp [State.returnToHead, hf]
  have hatm : s.returnToHead.atm.state = .tripped := by rw [s.returnToHead_frame]; exact h
  rw [State.feederHalt_opening ho, State.feederToIdle_eq, if_neg hqueue]
  exact State.judgePermit_tripped_stays hatm fun _ => hqueue

/-- The table a halted Feeder leaves while TRIPPED. -/
theorem State.feederHalt_tripped_table (h : s.atm.state = .tripped) (c : JamCause) : (s.feederHalt c).table
    = if s.feeder.state = .opening then s.returnToHead.table else s.table := by
  by_cases ho : s.feeder.state = .opening
  · have hatm : s.returnToHead.atm.state = .tripped := by rw [s.returnToHead_frame]; exact h
    rw [if_pos ho, State.feederHalt_opening ho, State.feederToIdle_tripped_table hatm]
  · rw [if_neg ho]
    by_cases hp : s.feeder.state = .passing
    · rw [State.feederHalt_passing hp]
      rfl
    · rw [State.feederHalt_other ho hp]

/-- A halted Feeder reports its jam where it was passing, and nothing else (R78, R79). -/
theorem State.feederHalt_arb (s : State) (c : JamCause) : (s.feederHalt c).arb
    = if s.feeder.state = .passing then s.arb.raise s.clock srcFeedJam (s.table.feeding.map Fin.val) (some (.jam c))
      else s.arb := by
  by_cases hp : s.feeder.state = .passing
  · rw [if_pos hp, State.feederHalt_passing hp, State.enterJam_eq]
  · rw [if_neg hp]
    by_cases ho : s.feeder.state = .opening
    · rw [State.feederHalt_opening ho, State.feederToIdle_frame, s.returnToHead_frame]
    · rw [State.feederHalt_other ho hp]

theorem State.returnToHead_record (hf : s.table.feeding = some i) (j : Slot) : s.returnToHead.record j
    = if i = j then (s.record i).map fun r => { r with phase := .shredWait } else s.record j := by
  rw [← s.modRecord_record i j, State.returnToHead, hf]
  rfl

theorem State.returnToHead_record_other (hf : s.table.feeding ≠ some j) : s.returnToHead.record j = s.record j := by
  cases hk : s.table.feeding with
  | none => rw [State.returnToHead, hk]
  | some k => rw [State.returnToHead_record hk, if_neg fun he : k = j => hf (he ▸ hk)]

theorem State.returnToHead_openSet (s : State) : s.returnToHead.table.openSet = s.table.openSet := by
  unfold State.returnToHead
  split <;> rfl

theorem State.feederHalt_tripped_openSet (h : s.atm.state = .tripped) (c : JamCause) :
    (s.feederHalt c).table.openSet = s.table.openSet := by
  rw [State.feederHalt_tripped_table h]
  split
  · exact s.returnToHead_openSet
  · rfl

/-- A record that is not given back stays as it is. -/
theorem State.feederHalt_tripped_record (h : s.atm.state = .tripped) (c : JamCause)
    (hj : s.table.feeding ≠ some j ∨ s.feeder.state ≠ .opening) : (s.feederHalt c).record j = s.record j := by
  have htable := State.feederHalt_tripped_table h c
  unfold State.record
  rw [htable]
  split
  case isTrue ho => exact State.returnToHead_record_other (hj.resolve_right (not_not.mpr ho))
  case isFalse => rfl

/-! ### The flags of the open windows (R87) -/

/-- A change of records that has no further effect when made twice. -/
theorem State.modRecords_record_idem {f : Record → Record} (hf : ∀ r, f (f r) = f r) (l : List Slot) (s : State) (j : Slot) :
    (s.modRecords l f).record j = if j ∈ l then (s.record j).map f else s.record j := by
  induction l generalizing s with
  | nil => rfl
  | cons i l ih =>
    have hstep : (s.modRecords (i :: l) f).record j = ((s.modRecord i f).modRecords l f).record j := rfl
    rw [hstep, ih, State.modRecord_record]
    by_cases hij : i = j
    · subst hij
      cases s.record i <;> simp [hf]
    · simp [hij, Ne.symm hij]

theorem Record.flag_tripDuringWindow (r : Record) :
    r.flag .tripDuringWindow = { r with flags := { r.flags with tripDuringWindow := true } } := by
  simp only [Record.flag, Record.flagIf, Flags.setIf, Bool.or_true]

theorem Record.flag_tripDuringWindow_idem (r : Record) :
    (r.flag .tripDuringWindow).flag .tripDuringWindow = r.flag .tripDuringWindow := by
  simp only [Record.flag_tripDuringWindow]

end Tripped

/-! ### The entry to TRIPPED (R79, R87) -/

section Entry

variable {s : State} {c : TripCauses} {i j : Slot}

theorem State.tripping_state (s : State) (c : TripCauses) : (s.tripping c).atm.state = .tripped := rfl

theorem State.enterTripped_feeder (s : State) (c : TripCauses) : (s.enterTripped c).feeder = ((s.tripping c).feederHalt .trip).feeder := by
  rw [s.enterTripped_frame]

/-- The entry changes records alone in the table that the halted Feeder leaves. -/
theorem State.enterTripped_table (s : State) (c : TripCauses) : (s.enterTripped c).table
    = { ((s.tripping c).feederHalt .trip).table with slots := (s.enterTripped c).table.slots } := by
  rw [State.enterTripped_eq, State.modRecords_eq]
  rfl

theorem State.enterTripped_record (s : State) (c : TripCauses) (j : Slot) : (s.enterTripped c).record j
    = if j ∈ s.table.openSet then (((s.tripping c).feederHalt .trip).record j).map (Record.flag .tripDuringWindow)
      else ((s.tripping c).feederHalt .trip).record j := by
  have hopen : ((s.tripping c).feederHalt .trip).table.openSet = s.table.openSet :=
    State.feederHalt_tripped_openSet (s.tripping_state c) .trip
  rw [← hopen]
  exact State.modRecords_record_idem Record.flag_tripDuringWindow_idem _ _ j

/-- The notices of a trip (R78, R87, R88; log 14). -/
theorem State.enterTripped_arb (s : State) (c : TripCauses) : (s.enterTripped c).arb = Arbiter.raise
    (if s.feeder.state = .passing then
        (s.arb.report s.clock srcMarginLost false none none).raise s.clock srcFeedJam (s.table.feeding.map Fin.val) (some (.jam .trip))
      else s.arb.report s.clock srcMarginLost false none none)
    s.clock srcTrip none (some (.trip c)) := by
  have harb := (s.tripping c).feederHalt_arb .trip
  have hclock : ((s.tripping c).feederHalt .trip).clock = s.clock := by rw [State.feederHalt_frame]; rfl
  rw [State.enterTripped_eq, State.modRecords_eq]
  exact congrArg₂ (fun a k => Arbiter.raise a k srcTrip none (some (.trip c))) harb hclock

end Entry

/-! ### The pass that trips (R86, R87) -/

section Trips

variable {s : State} {c : TripCauses} {i : Slot} {r : Record}

/-- The pass trips with the causes `c`. -/
structure State.TripsWith (s : State) (c : TripCauses) : Prop where
  untripped : s.atm.state ≠ .tripped
  moves : s.atmMoves = s.atmReads.enterTripped c

theorem State.TripsWith.of_conditions (h : s.atm.state ≠ .tripped) (hc : (s.tripNow s.readingsNow s.demandNow).any = true) :
    s.TripsWith (s.tripNow s.readingsNow s.demandNow) := ⟨h, State.atmMoves_trips h hc⟩

theorem State.TripsWith.moved (h : s.TripsWith c) : s.atmMoved = (s.atmReads.enterTripped c).judgePermit := by
  obtain ⟨hs, hm⟩ := h
  have hstate : (s.atmReads.enterTripped c).atm.state = .tripped := by rw [State.enterTripped_atm]
  rw [State.atmMoved, hm, if_neg (hstate ▸ hs.symm)]

theorem State.TripsWith.table (h : s.TripsWith c) : s.atmospherePass.table = (s.atmReads.enterTripped c).table := by
  rw [s.atmospherePass_table, h.moved, State.judgePermit_tripped_table (by rw [State.enterTripped_atm])]

theorem State.TripsWith.record (h : s.TripsWith c) (j : Slot) : s.atmospherePass.record j = (s.atmReads.enterTripped c).record j := by
  unfold State.record
  rw [h.table]

/-- The controller as the trip leaves it (R87, R90). -/
theorem State.TripsWith.atm (h : s.TripsWith c) : s.atmospherePass.atm.state = .tripped
    ∧ s.atmospherePass.atm.tripCauses = some c ∧ s.atmospherePass.atm.holdStart = none
    ∧ s.atmospherePass.atm.marginLost = false ∧ s.atmospherePass.atm.duty = 1000 := by
  rw [s.atmospherePass_atm, Atmosphere.supervise_frame, State.passDuty, h.moves, State.enterTripped_atm]
  exact ⟨rfl, rfl, rfl, rfl, rfl⟩

/-- The notices of the trip, as operations in an order that log 14 leaves open. -/
theorem State.TripsWith.arb (h : s.TripsWith c) : ∃ ops : List (Arbiter → Arbiter),
    s.atmMoves.arb = ops.foldl (fun a f => f a) s.arb
      ∧ ops.Perm ((fun a => a.report s.clock srcMarginLost false none none)
        :: (fun a => a.raise s.clock srcTrip none (some (.trip c)))
        :: if s.feeder.state = .passing then
            [fun a => a.raise s.clock srcFeedJam (s.table.feeding.map Fin.val) (some (.jam .trip))]
          else []) := by
  rw [h.moves, State.enterTripped_arb]
  by_cases hp : s.feeder.state = .passing
  · have hp' : s.atmReads.feeder.state = .passing := hp
    rw [if_pos hp, if_pos hp']
    exact ⟨[_, _, _], rfl, (List.Perm.swap _ _ []).cons _⟩
  · have hp' : s.atmReads.feeder.state ≠ .passing := hp
    rw [if_neg hp, if_neg hp']
    exact ⟨[_, _], rfl, .refl _⟩

/-- A record that the trip does not give back, by the open-window set (R87). -/
theorem State.TripsWith.kept (h : s.TripsWith c) (hi : s.table.feeding ≠ some i ∨ s.feeder.state ≠ .opening) :
    s.atmospherePass.record i
      = if i ∈ s.table.openSet then (s.record i).map (Record.flag .tripDuringWindow) else s.record i := by
  rw [h.record, State.enterTripped_record,
    State.feederHalt_tripped_record (s := s.atmReads.tripping c) (s.atmReads.tripping_state c) .trip hi]
  rfl

/-- A passing Feeder jams (R79). -/
theorem State.TripsWith.passing (h : s.TripsWith c) (hp : s.feeder.state = .passing) : s.atmospherePass.feeder
    = { s.feeder with state := .jammed, jam := some .trip, copied := none, deadline := none } := by
  have hfeeder : (s.atmReads.enterTripped c).feeder
      = { s.feeder with state := .jammed, jam := some .trip, copied := none, deadline := none } := by
    rw [State.enterTripped_feeder, State.feederHalt_passing (s := s.atmReads.tripping c) hp, State.enterJam_eq]
    rfl
  rw [s.atmospherePass_feeder, h.moved, State.judgePermit_other (by rw [hfeeder]; exact nofun), hfeeder]

/-- An opening Feeder gives its appliance back to the head of the shred queue and waits (R79). -/
theorem State.TripsWith.opening (h : s.TripsWith c) (ho : s.feeder.state = .opening) (hf : s.table.feeding = some i) :
    s.atmospherePass.feeder.state = .waitPermit ∧ s.atmospherePass.table.feeding = none
      ∧ s.atmospherePass.table.shredQueue = i :: s.table.shredQueue
      ∧ (i ∉ s.table.openSet → s.atmospherePass.record i = (s.record i).map fun r => { r with phase := .shredWait }) := by
  have hhalt := State.feederHalt_tripped_opening (s := s.atmReads.tripping c) (s.atmReads.tripping_state c) ho hf .trip
  have htable : ((s.atmReads.tripping c).feederHalt .trip).table = { (s.atmReads.tripping c).returnToHead.table with
      shredQueue := i :: s.table.shredQueue, feeding := none } := by
    rw [hhalt]
    simp only [State.feederUntimed, State.returnToHead, show (s.atmReads.tripping c).table.feeding = some i from hf]
    rfl
  have hqueue : (s.atmReads.enterTripped c).table.shredQueue = i :: s.table.shredQueue := by
    rw [State.enterTripped_table, htable]
  have hstays : (s.atmReads.enterTripped c).judgePermit = s.atmReads.enterTripped c :=
    State.judgePermit_tripped_stays (by rw [State.enterTripped_atm]) fun _ => by rw [hqueue]; exact List.cons_ne_nil _ _
  refine ⟨?_, ?_, ?_, fun hi => ?_⟩
  · rw [s.atmospherePass_feeder, h.moved, hstays, State.enterTripped_feeder, hhalt]
    rfl
  · rw [h.table, State.enterTripped_table, htable]
  · rw [h.table, hqueue]
  · have hrecord := State.returnToHead_record (s := s.atmReads.tripping c) hf i
    rw [if_pos rfl] at hrecord
    refine (h.record i).trans ((State.enterTripped_record _ c i).trans ((if_neg hi).trans ?_))
    rw [hhalt]
    exact hrecord

end Trips

/-! ### Demand and trip conditions (R85, R86) -/

theorem State.demandNow_iff (s : State) : s.demandNow = true ↔ s.flammableInside = true
    ∨ (∃ i, s.table.shredQueue.head? = some i ∧ s.flammableAt i = true) ∨ s.atm.hostHold = true := by
  simp only [State.demandNow, State.flammableHead, Bool.or_eq_true, Option.any_eq_true, or_assoc]

theorem AtmReadings.unhealthy_iff (r : AtmReadings) : r.healthy = false ↔ r.o2Status ≠ .ok ∨ r.lflStatus ≠ .ok := by
  rw [AtmReadings.healthy, Bool.and_eq_false_iff, beq_eq_false_iff_ne, beq_eq_false_iff_ne]

/-- The trip conditions as R86 names them. -/
theorem State.tripNow_eq {s : State} {r : AtmReadings} {d : Bool} {c : TripCauses}
    (hlfl : c.lflHigh = true ↔ (s.item iLTripLFL : Int) < r.lfl)
    (ho2 : c.o2High = true ↔ s.flammableInside = true ∧ (s.item iLTrip : Int) < r.o2)
    (hsensor : c.sensor = true ↔ d = true ∧ (r.o2Status ≠ .ok ∨ r.lflStatus ≠ .ok)) : s.tripNow r d = c := by
  rw [← r.unhealthy_iff] at hsensor
  obtain ⟨a, b, e⟩ := c
  have h1 : a = decide ((s.item iLTripLFL : Int) < r.lfl) := by rw [Bool.eq_iff_iff, decide_eq_true_eq]; exact hlfl
  have h2 : b = (s.flammableInside && decide ((s.item iLTrip : Int) < r.o2)) := by
    rw [Bool.eq_iff_iff, Bool.and_eq_true, decide_eq_true_eq]; exact ho2
  have h3 : e = (d && !r.healthy) := by
    rw [Bool.eq_iff_iff, Bool.and_eq_true, Bool.not_eq_true']; exact hsensor
  rw [State.tripNow, h1, h2, h3]

/-- In TRIPPED a pass makes no transition (R87). -/
theorem State.atmospherePass_tripped {s : State} (h : s.atm.state = .tripped) : s.atmospherePass.atm.state = .tripped
    ∧ s.atmospherePass.atm.tripCauses = s.atm.tripCauses ∧ s.atmospherePass.atm.duty = 1000 := by
  have hduty : s.passDuty = 1000 := by
    rw [State.passDuty, State.atmMoves_tripped h, show s.atmReads.atm.state = .tripped from h]
    rfl
  rw [s.atmospherePass_atm, Atmosphere.supervise_frame, hduty, State.atmMoves_tripped h]
  exact ⟨h, rfl, rfl⟩

/-- A pass without a trip condition does not trip (R86). -/
theorem State.atmospherePass_untripped {s : State} (h : s.atm.state ≠ .tripped)
    (hc : (s.tripNow s.readingsNow s.demandNow).any = false) :
    s.atmospherePass.atm.state ≠ .tripped ∧ s.atmospherePass.atm.tripCauses = s.atm.tripCauses := by
  have huntripped := State.atmTransition_untripped (s := s.atmReads) h s.readingsNow s.demandNow
  rw [s.atmospherePass_atm, Atmosphere.supervise_frame, State.atmMoves_moves h hc]
  refine ⟨huntripped, ?_⟩
  rw [State.atmTransition_atm]
  rfl

/-- Settles O50: a pass in TRIPPED, a pass that trips, in its parts, and a pass without a trip condition. -/
theorem tripAtAPass : Obligations.TripAtAPass := by
  intro s t noFlow ht hnf
  subst ht
  have harb : s.atmospherePass.arb = noFlow s.atmMoves.arb := s.atmospherePass_arb.trans (hnf _).symm
  refine ⟨fun hs => ?_, fun c demand hs hdemand hlfl ho2 hsensor => ?_⟩
  · obtain ⟨hstate, hcauses, hduty⟩ := State.atmospherePass_tripped hs
    refine ⟨hstate, hcauses, hduty, ?_⟩
    rw [harb, State.atmMoves_tripped hs]
    rfl
  · have hd : s.demandNow = demand := Bool.eq_iff_iff.mpr (s.demandNow_iff.trans hdemand.symm)
    have hc : s.tripNow s.readingsNow s.demandNow = c := hd ▸ State.tripNow_eq hlfl ho2 hsensor
    refine ⟨s.atmospherePass_demand.trans hd, fun hany => ?_,
      fun hnone => State.atmospherePass_untripped hs (hc ▸ hnone)⟩
    · have htrip : s.TripsWith c := hc ▸ State.TripsWith.of_conditions hs (hc ▸ hany)
      obtain ⟨hstate, hcauses, hhold, hmargin, hduty⟩ := htrip.atm
      obtain ⟨ops, hops, hperm⟩ := htrip.arb
      refine ⟨hstate, hcauses, hhold, hmargin, hduty, ?_, ⟨ops, harb.trans (congrArg noFlow hops), hperm⟩,
        fun i r hi hf hr => ?_, fun i hi hf => ?_, htrip.passing, fun i ho hf => htrip.opening ho hf⟩
      · rw [s.atmospherePass_read.frame]
        exact hduty
      · rw [htrip.kept (.inl hf), if_pos hi, hr, Option.map_some, Record.flag_tripDuringWindow]
      · rw [htrip.kept hf, if_neg hi]

end Sys2Proof.Machine
end

section
/-! The values after device reset (R83, R92, R113, R120, R121, R152, R153, R164, R189). -/

namespace Sys2Proof.Machine

/-- The table of R189: default, range and unit of the 44 configuration items. -/
theorem itemRows_table : (List.finRange 44).map itemRow
    = [⟨120, 10, 600, 1000⟩, ⟨20, 5, 120, 1000⟩, ⟨2, 1, 10, 1000⟩, ⟨5, 1, 60, 1000⟩, ⟨400, 50, 900, 1⟩, ⟨10, 1, 120, 1000⟩,
       ⟨600, 60, 3600, 1000⟩, ⟨30, 5, 300, 1000⟩, ⟨100, 10, 1000, 1⟩, ⟨60, 0, 600, 1000⟩]
      ++ List.replicate 4 ⟨450000, 1000, 500000, 1⟩
      ++ [⟨20, 0, 1000, 1⟩, ⟨900, 500, 1000, 1⟩, ⟨10, 2, 60, 1000⟩, ⟨60, 10, 600, 1000⟩, ⟨10, 2, 60, 1000⟩,
       ⟨1800000, 100000, 2000000, 1⟩, ⟨400, 100, 1500, 1⟩, ⟨600, 100, 2000, 1⟩, ⟨800, 200, 2500, 1⟩, ⟨200, 10, 900, 1⟩,
       ⟨400, 20, 1000, 1⟩, ⟨30, 5, 300, 1000⟩, ⟨300, 0, 2000, 1⟩, ⟨100, 0, 1000, 1⟩, ⟨10, 2, 120, 1000⟩, ⟨20, 0, 1000, 1⟩]
      ++ [⟨250, 100, 1000, 1⟩, ⟨40, 1, 240, 1⟩, ⟨1000, 200, 5000, 1⟩, ⟨4, 1, 16, 1⟩, ⟨100, 1, 10000, 1⟩, ⟨18, 1, 255, 1⟩,
       ⟨700, 0, 1000, 1⟩, ⟨50, 1, 5000, 1⟩]
      ++ ([1500, 2500, 3500, 4500, 6000, 8000] : List Nat).map fun f => ⟨f, 1, 65535, 1⟩ := by
  decide

/-- Span and settle band of each channel (R121). -/
theorem channelDefaults : ∀ c : ChannelNo,
    (c.val < 8 → c.val % 2 = 0 → channelSpan c = 500000 ∧ channelBand c = 20)
    ∧ (c.val < 8 → c.val % 2 = 1 → channelSpan c = 10000 ∧ channelBand c = 0)
    ∧ (c.val = 8 → channelSpan c = 2500 ∧ channelBand c = 0) ∧ (c.val = 9 → channelSpan c = 1000 ∧ channelBand c = 0)
    ∧ (c.val = 10 → channelSpan c = 2000000 ∧ channelBand c = 200) ∧ (c.val = 11 → channelSpan c = 5000 ∧ channelBand c = 0)
    ∧ (12 ≤ c.val → channelSpan c = 50000 ∧ channelBand c = 10) := by
  decide

/-- Level and kind of each source (R152). -/
theorem sourceDefaults : ∀ i : SourceNo, (i.val ≤ 1 → sourceLevel i = some 3)
    ∧ (2 ≤ i.val → i.val ≤ 10 → sourceLevel i = some 2) ∧ (11 ≤ i.val → i.val ≤ 12 ∨ i.val = 19 → sourceLevel i = some 1)
    ∧ (13 ≤ i.val → i.val ≤ 18 → sourceLevel i = some 0) ∧ (i.val = 20 → sourceLevel i = none)
    ∧ (sourceIsLevel i = true ↔ 7 ≤ i.val ∧ i.val ≤ 11 ∨ i.val = 18) := by
  decide

section Fresh

variable (a : BitVec 5) (fast four : Bool)

theorem State.fresh_item (i : Item) : (State.fresh a fast four).item i = (itemRow i).dflt * (itemRow i).scale := by
  simp [State.item, State.fresh, settingsReset]

theorem State.fresh_channel (c : ChannelNo) : (State.fresh a fast four).channel c = channelReset c := by
  simp [State.channel, State.fresh]

theorem State.fresh_source (i : SourceNo) : (State.fresh a fast four).arb.sources[i] = sourceReset i := by
  simp [State.fresh, arbReset]

theorem State.fresh_record (i : Slot) : (State.fresh a fast four).record i = none := by
  simp [State.record, State.fresh, tableReset]

theorem State.fresh_station (n : StationNo) : (State.fresh a fast four).station n = stationReset := by
  simp [State.station, State.fresh]

end Fresh

/-- Settles O19: the rows of R189, then block by block. -/
theorem resetValues : Obligations.ResetValues := by
  refine ⟨itemRows_table, fun s a fast four hs => ?_⟩
  subst hs
  refine ⟨State.fresh_item a fast four,
    fun c => ⟨_, _, State.fresh_channel a fast four c, channelDefaults c⟩,
    fun i => ⟨_, State.fresh_source a fast four i, sourceDefaults i⟩,
    rfl, rfl, rfl, rfl, State.fresh_record a fast four, rfl, rfl, rfl, rfl, rfl, rfl, rfl,
    fun n => ⟨_, _, _, _, State.fresh_station a fast four n⟩, ?_⟩
  and_intros <;> rfl

end Sys2Proof.Machine
end

section
/-! The foam account (`Obligations.AccountLawKept`): what the additions of a tick and of a close make of attributed, pool and
captured, and that every other move leaves the totals as they are or clears them together. -/

namespace Sys2Proof.Machine

/-! ### The account and the additions to it (R102, R114, R117) -/

/-- A total within its maximum, its indicator set at the maximum alone (R113). -/
def Total.Sound (x : Total) : Prop := x.value ≤ 4294967295 ∧ (x.saturated = true → x.value = 4294967295)

/-- Attributed plus pool is captured, short of saturation (R102, R117). -/
def Balanced (captured attributed pool : Total) : Prop := captured.saturated = false →
  attributed.saturated = false ∧ pool.saturated = false ∧ attributed.value + pool.value = captured.value

theorem State.accountLaw_iff (s : State) : s.accountLaw ↔ (∀ i : TotalNo, s.totals[i].Sound)
    ∧ Balanced s.totals[totCaptured] s.totals[totAttributed] s.totals[totPool] := Iff.rfl

section Additions

variable {s : State} {c a p x : Total} {n : Nat}

/-- An addition that saturates leaves the maximum with its indicator (R114). -/
theorem Total.add_saturates (h : 4294967295 < x.value + n) : x.add n = { value := 4294967295, saturated := true } :=
  if_neg (Nat.not_le.mpr h)

/-- An addition short of the maximum leaves the indicator (R114). -/
theorem Total.add_exact (h : x.value + n ≤ 4294967295) : x.add n = { x with value := x.value + n } := if_pos h

theorem Total.Sound.add (h : x.Sound) (n : Nat) : (x.add n).Sound := by
  obtain ⟨-, hsat⟩ := h
  by_cases hn : x.value + n ≤ 4294967295
  · rw [Total.add_exact hn]
    exact ⟨hn, fun hs => by have := hsat hs; show x.value + n = _; omega⟩
  · rw [Total.add_saturates (Nat.not_le.mp hn)]
    exact ⟨Nat.le_refl _, fun _ => rfl⟩

/-- The effective increment of a divided tick goes to captured and to attributed (R102). -/
theorem Balanced.add_attributed (h : Balanced c a p) : Balanced (c.add n) (a.add n) p := by
  by_cases hn : c.value + n ≤ 4294967295
  · rw [Total.add_exact hn]
    intro hc
    obtain ⟨ha, hp, hsum⟩ := h hc
    rw [Total.add_exact (x := a) (by omega)]
    exact ⟨ha, hp, by show a.value + n + p.value = c.value + n; omega⟩
  · rw [Total.add_saturates (Nat.not_le.mp hn)]
    exact nofun

theorem Balanced.swap (h : Balanced c a p) : Balanced c p a := fun hc =>
  have ⟨ha, hp, hsum⟩ := h hc
  ⟨hp, ha, by omega⟩

/-- The effective increment of a tick without weight goes to captured and to the pool (R102). -/
theorem Balanced.add_pool (h : Balanced c a p) : Balanced (c.add n) a (p.add n) := h.swap.add_attributed.swap

theorem State.addTotal_sound (h : ∀ j : TotalNo, s.totals[j].Sound) (i : TotalNo) (n : Nat) (j : TotalNo) :
    (s.addTotal i n).totals[j].Sound := by
  by_cases hij : i = j
  · subst hij
    rw [State.addTotal_same]
    exact (h i).add n
  · rw [State.addTotal_other s n hij]
    exact h j

end Additions

/-! ### Moves that keep the account -/

/-- A move that keeps the law of the account. -/
def State.Accounted (s t : State) : Prop := s.accountLaw → t.accountLaw

section Accounted

variable {s t u : State}

theorem State.Accounted.refl (s : State) : s.Accounted s := id

theorem State.Accounted.trans (h : s.Accounted t) (k : t.Accounted u) : s.Accounted u := k ∘ h

theorem State.Accounted.of_totals (h : t.totals = s.totals) : s.Accounted t := fun hs => by
  rw [State.accountLaw_iff] at hs ⊢
  rwa [h]

/-- A case that changes nothing where its condition fails. -/
theorem State.Accounted.ite {c : Prop} [Decidable c] (h : s.Accounted t) : s.Accounted (if c then t else s) := by
  split
  · exact h
  · exact .refl s

theorem foldl_accounted {α : Type} {f : State → α → State} (hf : ∀ s a, State.Accounted s (f s a)) (l : List α) (s : State) :
    s.Accounted (l.foldl f s) := foldl_frame State.Accounted.refl State.Accounted.trans hf l s

theorem GateFrame.accounted (h : GateFrame s t) : s.Accounted t := .of_totals (by rw [h])

theorem HaltFrame.accounted (h : HaltFrame s t) : s.Accounted t := .of_totals (by rw [h])

theorem StationFrame.accounted (h : StationFrame s t) : s.Accounted t := .of_totals (by rw [h])

/-- All totals at 0 balance (R113, R119). -/
theorem State.accountLaw_of_cleared (h : t.totals = totalsReset) : t.accountLaw :=
  State.Accounted.of_totals (s := State.reset) h State.reset_accountLaw

end Accounted

/-! ### Closings and ticks (R101, R102, R116, R117) -/

/-- The additions of a close are none of the account's (R115, R116). -/
theorem State.addClose_accounted (s : State) (r : Record) : s.Accounted (s.addClose r) := by
  rintro ⟨hsound, hbal⟩
  refine ⟨State.addTotal_sound (State.addTotal_sound (State.addTotal_sound (State.addTotal_sound hsound _ _) _ _) _ _) _ _, ?_⟩
  rw [s.addClose_account r (j := totCaptured) (by decide), s.addClose_account r (j := totAttributed) (by decide),
    s.addClose_account r (j := totPool) (by decide)]
  exact hbal

theorem State.closeSlot_accounted (s : State) (i : Slot) : s.Accounted (s.closeSlot i) := by
  cases hr : s.record i with
  | none => simp only [State.closeSlot, hr]; exact .refl s
  | some r =>
    rw [State.closeSlot_eq hr rfl]
    exact State.Accounted.trans (t := s.withdrawn i _) (.of_totals rfl) ((State.addClose_accounted _ _).trans (.of_totals rfl))

theorem State.closeWindow_accounted (s : State) (i : Slot) : s.Accounted (s.closeWindow i) :=
  State.Accounted.trans (t := s.modRecord i _) (.of_totals rfl) (State.closeSlot_accounted _ i)

/-- The amounts of a tick: the increment goes to captured, and to attributed or to the pool (R102, R117). -/
theorem State.tickTotals_accounted (s : State) (w : Bool) (d k : Nat) : s.Accounted (s.tickTotals w d k) := by
  rintro ⟨hsound, hbal⟩
  refine ⟨State.addTotal_sound (State.addTotal_sound (State.addTotal_sound hsound _ _) _ _) _ _, ?_⟩
  cases w with
  | true =>
    simp (disch := decide) only [State.tickTotals, State.addTotal_other, State.addTotal_same, if_true]
    exact Balanced.add_attributed hbal
  | false =>
    simp (disch := decide) only [State.tickTotals, State.addTotal_other, State.addTotal_same, if_false, Bool.false_eq_true]
    exact Balanced.add_pool hbal

theorem State.tickGain_accounted (s : State) (x : Option Nat) : s.Accounted (s.tickGain x) :=
  State.Accounted.trans (.of_totals (by rw [State.divide_same])) (State.tickTotals_accounted _ _ _ _)

theorem State.countWindows_accounted (s : State) : s.Accounted s.countWindows :=
  (State.modRecords_frame _ _ s).accounted.trans (foldl_accounted State.closeWindow_accounted _ _)

theorem State.markBreakthrough_accounted (s : State) : s.Accounted s.markBreakthrough :=
  .ite (State.modRecords_frame _ _ s).accounted

theorem State.tick_accounted (s : State) (x : TickReadings) : s.Accounted (s.tick x) := by
  have hjudge : s.Accounted (s.judgeBreakthrough x) := .of_totals rfl
  have hbooks := ((hjudge.trans (State.tickGain_accounted _ x.vessel)).trans (State.countWindows_accounted _)).trans
    (State.markBreakthrough_accounted _)
  have hfoam (t : State) (f : Foam) : t.Accounted { t with foam := f } := .of_totals rfl
  unfold State.tick
  simp only
  split
  · exact hbooks.trans (hfoam _ _)
  · exact (hbooks.trans (hfoam _ _)).trans (State.judgePermit_frame _).accounted

theorem State.tickStep_accounted (s : State) : s.Accounted s.tickStep := by
  unfold State.tickStep
  split
  · exact .refl s
  · exact s.tick_accounted _

/-! ### Passes and conversions (R83 to R91, R122 to R125) -/

theorem State.attributionPass_accounted (s : State) (m a : Bool) : s.Accounted (s.attributionPass m a) := by
  unfold State.attributionPass
  split
  · split
    · exact .refl s
    · exact s.tickStep_accounted
  · exact .of_totals rfl

theorem State.atmospherePass_accounted (s : State) : s.Accounted s.atmospherePass := by
  have hmoved : s.atmMoved.totals = s.totals := by rw [s.atmMoved_frame]
  exact .of_totals hmoved

theorem State.readPass_accounted (s : State) (m a : Bool) (x : PassReader) : s.Accounted (s.readPass m a x) := by
  cases x with
  | atmosphere => exact s.atmospherePass_accounted
  | attribution => exact s.attributionPass_accounted m a
  | feeder => exact s.feederPass_frame.accounted
  | stations => exact s.stationsPass_frame.accounted

theorem State.passCompleted_accounted (s : State) (raw : Vector Raw 8) (first : List PassReader) (a : Bool) :
    s.Accounted (s.passCompleted raw first a) := by
  unfold State.passCompleted
  split
  · exact .refl s
  · exact State.Accounted.trans (.of_totals (by rw [s.passConverted_frame]))
      (foldl_accounted (fun t x => t.readPass_accounted _ _ x) _ _)

theorem State.groupAConverted_accounted (s : State) (r : Raw) : s.Accounted (s.groupAConverted r) := by
  unfold State.groupAConverted
  refine State.Accounted.trans ?_ (State.stationConverted_frame _ _).accounted
  exact .of_totals rfl

/-! ### The gate and the stations (R25 to R48, R70 to R79) -/

theorem State.pins_accounted (s : State) (p : Pins) : s.Accounted { s with pins := p } := .of_totals rfl

theorem State.gateOpened_accounted (s : State) : s.Accounted s.gateOpened := by
  unfold State.gateOpened
  simp only
  split
  · exact .refl s
  · exact (s.pins_accounted _).trans (.ite (.of_totals rfl))

theorem State.gateShut_accounted (s : State) : s.Accounted s.gateShut := by
  unfold State.gateShut
  simp only
  split
  · exact .refl s
  · exact (s.pins_accounted _).trans (.ite (State.feederToIdle_frame _).accounted)

theorem State.openExpired_accounted (s : State) : s.Accounted s.openExpired :=
  .ite (s.returnToHead_frame.halt.trans (State.enterJam_frame _ _)).accounted

theorem State.passExpired_accounted (s : State) : s.Accounted s.passExpired := .ite (s.enterJam_frame _).accounted

theorem State.closeExpired_accounted (s : State) : s.Accounted s.closeExpired := .ite (s.enterJam_frame _).accounted

theorem State.beamCleared_accounted (s : State) : s.Accounted s.beamCleared :=
  (s.pins_accounted _).trans (.ite ((State.feedEvent_frame _ _ _).trans (State.enterClosing_frame _)).accounted)

theorem State.shredderRuns_accounted (s : State) (b : Bool) : s.Accounted (s.shredderRuns b) := by
  unfold State.shredderRuns
  split
  · exact .refl s
  · exact (s.pins_accounted _).trans (State.judgePermit_frame _).accounted

theorem State.clampClosed_accounted (s : State) (n : StationNo) : s.Accounted (s.clampClosed n) := by
  unfold State.clampClosed
  simp only
  split
  · exact .refl s
  · exact (s.pins_accounted _).trans (.ite (State.enterTaring_frame _ n).accounted)

theorem State.clampOpen_accounted (s : State) (n : StationNo) : s.Accounted (s.clampOpen n) := by
  have hpin := s.pins_accounted { s.pins with clamp := s.pins.clamp.set n false }
  have hstop := (hpin.trans (State.abort_frame _ n .clampOpened).accounted).trans
    (u := State.raise _ (srcStationFault n) ((s.station n).bound.map Fin.val) (some (.fault .clampOpened))) (.of_totals rfl)
  unfold State.clampOpen
  simp only
  split
  · exact .refl s
  · split
    · exact hstop
    · exact hstop
    · exact hstop
    · exact hstop
    · exact hstop
    · exact hpin.trans (State.enterAwait_frame _ n).accounted
    · exact hpin

theorem State.takeProbe_accounted (s : State) (n : StationNo) (pair : BitVec 2) :
    s.Accounted ((s.analyserSeen n pair).takeProbe n pair) :=
  (s.pins_accounted _).trans (State.takeProbe_frame _ n pair).accounted

theorem State.evacExpired_accounted (s : State) (n : StationNo) (pair : BitVec 2) : s.Accounted (s.evacExpired n pair) := by
  refine .ite ?_
  split
  · exact (s.evacTimedOut_frame n).accounted
  · exact (s.takeProbe_accounted n pair).trans (State.evacTimedOut_frame _ n).accounted

/-! ### The line and the timing unit (R137 to R151, R166 to R172) -/

theorem State.setLine_accounted (s : State) (l : LineState) : s.Accounted (s.setLine l) :=
  have hline : s.Accounted { s with line := { s.line with state := l } } := .of_totals rfl
  hline.trans (State.judgePermit_frame _).accounted

theorem State.stopLine_accounted (s : State) : s.Accounted s.stopLine := by
  unfold State.stopLine
  split
  · exact .refl s
  · have hline : s.Accounted { s with line := { s.line with state := .stop } } := .of_totals rfl
    exact (hline.trans (State.stationStops_frame _ _).accounted).trans (State.enterStop_haltFrame s).accounted

theorem State.emergencyOn_accounted (s : State) : s.Accounted s.emergencyOn := by
  have hpin := s.pins_accounted { s.pins with emergencyStop := true }
  unfold State.emergencyOn
  simp only
  split
  · exact hpin
  · refine State.Accounted.trans ?_ (State.stopLine_accounted _)
    exact .of_totals rfl

theorem State.itemEffect_accounted (s : State) (i : Item) : s.Accounted (s.itemEffect i) := by
  unfold State.itemEffect State.newPeriod
  split
  · split
    · exact .refl s
    · split <;> exact .of_totals rfl
  · split
    · exact .of_totals rfl
    · split
      · exact .of_totals rfl
      · exact .ite s.feederPass_frame.accounted

theorem State.idle_accounted (s : State) : s.Accounted s.idle := by
  unfold State.idle
  split <;> exact .of_totals rfl

/-! ### The owners of the requests (R184) -/

/-- An owner whose answer keeps the account. -/
def AccountOwner (owner : State → State × Answer) : Prop := ∀ s : State, s.Accounted (owner s).1

section Owners

variable {owner : State → State × Answer} {Q : State → State → Prop}

theorem Acts.accounted (h : Acts owner Q) (hQ : ∀ s t, Q s t → s.Accounted t) : AccountOwner owner :=
  fun _ hs => h.keeps (fun s t hs hq => hQ s t hq hs) hs

theorem Acts.accounted_totals (h : Acts owner Q) (hQ : ∀ s t, Q s t → t.totals = s.totals) : AccountOwner owner :=
  h.accounted fun s t hq => .of_totals (hQ s t hq)

theorem ansWithdraw_accounted (id : Word) : AccountOwner (ansWithdraw id) := by
  refine (ansWithdraw_acts id).accounted ?_
  rintro s t ⟨i, r, -, -, rfl⟩
  have hclose : s.Accounted ((s.modRecord i fun r => { r with foamVerdict := some .notShredded }).closeSlot i) :=
    State.Accounted.trans (t := s.modRecord i _) (.of_totals rfl) (State.closeSlot_accounted _ i)
  unfold State.withdrawSlot
  simp only
  split
  · exact hclose.trans (State.judgePermit_frame _).accounted
  · exact hclose

theorem ansFeedClear_accounted : AccountOwner ansFeedClear := by
  refine ansFeedClear_acts.accounted ?_
  rintro s t ⟨-, rfl⟩
  exact State.Accounted.trans (.ite (s.feedEvent_frame _ _).accounted) (State.freeJam_frame _).accounted

/-- Every owner of the catalogue keeps the account; CLEAR TOTALS clears it (R119). -/
theorem IsOwner.accounted (h : IsOwner owner) : AccountOwner owner := by
  cases h with
  | admission => exact (ansAdmit_acts _ _ _ _ _).accounted_totals fun _ _ ⟨_, _, _, _, _, _, _, ht⟩ => ht ▸ rfl
  | query => exact (ansQuery_acts _ _).accounted_totals fun _ _ ht => ht ▸ rfl
  | listTable => exact ansListTable_acts.accounted_totals fun _ _ ht => ht ▸ rfl
  | withdraw => exact ansWithdraw_accounted _
  | release =>
    exact (ansRelease_acts _).accounted fun s _ ⟨i, _, _, _, ht⟩ => ht ▸ State.Accounted.trans (t := s.release i) (.of_totals rfl)
      (State.judgeIdle_frame _).accounted
  | takeClosed => exact (ansTakeClosed_acts _).accounted_totals fun _ _ ht => ht.elim (· ▸ rfl) (· ▸ rfl)
  | beginAttempt =>
    exact (ansBegin_acts _ _).accounted fun s _ ⟨n, i, _, _, _, _, _, _, ht⟩ => ht ▸ (s.beginAttempt_frame n i).accounted
  | abort => exact (ansAbort_acts _).accounted fun s _ ⟨n, _, _, ht⟩ => ht ▸ (s.abort_frame n _).accounted
  | waive => exact (ansWaive_acts _).accounted_totals fun _ _ ⟨_, _, _, _, ht⟩ => ht ▸ rfl
  | clearStation => exact (ansClearStation_acts _).accounted_totals fun _ _ ⟨_, _, _, ht⟩ => ht ▸ rfl
  | receiverChanged => exact (ansReceiverChanged_acts _).accounted_totals fun _ _ ⟨_, _, _, ht⟩ => ht ▸ rfl
  | readStation => exact (ansReadStation_acts _).accounted_totals fun _ _ ⟨_, _, ht⟩ => ht ▸ rfl
  | feedClear => exact ansFeedClear_accounted
  | feedReturn =>
    exact ansFeedReturn_acts.accounted fun s _ ⟨_, ht⟩ => ht ▸ (s.returnToHead_frame.trans (State.freeJam_frame _)).accounted
  | holdOn => exact ansHoldOn_acts.accounted_totals fun _ _ ht => ht ▸ rfl
  | holdOff => exact ansHoldOff_acts.accounted_totals fun _ _ ht => ht ▸ rfl
  | tripReset =>
    exact ansTripReset_acts.accounted fun s _ ⟨_, ht⟩ => ht ▸ State.Accounted.trans (t := s.recover) (.of_totals rfl)
      (State.judgePermit_frame _).accounted
  | drainBegin => exact ansDrainBegin_acts.accounted_totals fun _ _ ⟨_, ht⟩ => ht ▸ rfl
  | drainEnd => exact ansDrainEnd_acts.accounted_totals fun _ _ ⟨_, ht⟩ => ht ▸ rfl
  | setConfig =>
    exact (ansSetConfig_acts _ _).accounted fun s _ ⟨i, v, ht⟩ => ht ▸ State.Accounted.trans (t := s.setItem i v) (.of_totals rfl)
      (State.itemEffect_accounted _ i)
  | readConfig => exact ansReadConfig_acts.accounted_totals fun _ _ ht => ht ▸ rfl
  | setChannel => exact (ansSetChannel_acts _ _ _ _ _ _).accounted_totals fun _ _ ⟨_, _, ht⟩ => ht ▸ rfl
  | readChannel => exact (ansReadChannel_acts _).accounted_totals fun _ _ ht => ht ▸ rfl
  | setSource => exact (ansSetSource_acts _ _).accounted_totals fun _ _ ⟨_, ht⟩ => ht ▸ rfl
  | setMask => exact (ansSetMask_acts _ _).accounted_totals fun _ _ ⟨_, ht⟩ => ht ▸ rfl
  | takeNotices => exact (ansTakeNotices_acts _).accounted_totals fun _ _ ⟨_, ht⟩ => ht ▸ rfl
  | readStatus => exact ansReadStatus_acts.accounted_totals fun _ _ ht => ht ▸ rfl
  | readTotals => exact ansReadTotals_acts.accounted_totals fun _ _ ht => ht ▸ rfl
  | clearTotals => exact ansClearTotals_acts.accounted fun _ _ ht => ht ▸ fun _ => State.accountLaw_of_cleared rfl
  | lineRun => exact ansLineRun_acts.accounted fun s _ ht => ht ▸ s.setLine_accounted _
  | lineHold => exact ansLineHold_acts.accounted fun s _ ht => ht ▸ s.setLine_accounted _
  | lineStop => exact ansLineStop_acts.accounted fun s _ ht => ht ▸ s.stopLine_accounted
  | lineResume => exact ansLineResume_acts.accounted fun s _ ht => ht ▸ s.setLine_accounted _
  | clearLine => exact ansClearLine_acts.accounted_totals fun _ _ ⟨_, ht⟩ => ht ▸ rfl
  | badKind => exact badKind_acts.accounted_totals fun _ _ ht => ht ▸ rfl
  | badLength => exact (ansBadLength_acts _).accounted_totals fun _ _ ht => ht ▸ rfl

end Owners

/-! ### Every command and every step -/

theorem SerialMove.accounted {s t : State} (h : SerialMove s t) : s.Accounted t := by
  have hlink (t : State) (l : Link) : t.Accounted { t with link := l } := .of_totals rfl
  cases h with
  | link l => exact hlink s l
  | error l e => exact .of_totals rfl
  | request k g ho => exact ((hlink s _).trans (ho.accounted _)).trans (hlink _ _)
  | broadcast ho => exact (hlink s _).trans (ho.accounted _)

/-- Every command keeps the account; device reset clears it (R113, R177). -/
theorem exec_accounted (c : Instr) (s t : State) (ht : exec c s = .next t) : s.Accounted t := by
  cases hc : onLine c with
  | true => exact (exec_serial c s t hc ht).accounted
  | false =>
    cases c
    case deviceReset => cases ht; exact fun _ => State.accountLaw_of_cleared rfl
    case clampClosedTrue n => cases ht; exact s.clampClosed_accounted n
    case clampOpened n => cases ht; exact s.clampOpen_accounted n
    case clampTimeout n => cases ht; exact .ite (s.faultUnpierced_frame n _).accounted
    case scaleUnsettled n => cases ht; exact .ite (s.faultUnpierced_frame n _).accounted
    case tPierceExpiry n => cases ht; exact .ite (s.enterEvacuating_frame n true).accounted
    case probe n p => cases ht; exact .ite (s.takeProbe_accounted n p)
    case tEvacExpiry n p => cases ht; exact s.evacExpired_accounted n p
    case tRiseExpiry n => cases ht; exact .ite (s.enterDraining_frame n).accounted
    case tDrainExpiry n => cases ht; exact .ite (s.enterWeighing_frame n).accounted
    case weighingSettleTimeout n => cases ht; exact (s.settleExpired_frame n).accounted
    case gateClosedFalse => cases ht; exact s.gateOpened_accounted
    case gateClosedTrue => cases ht; exact s.gateShut_accounted
    case tOpenExpiry => cases ht; exact s.openExpired_accounted
    case tPassExpiry => cases ht; exact s.passExpired_accounted
    case tCloseExpiry => cases ht; exact s.closeExpired_accounted
    case feedCapture => cases ht; exact s.beamCleared_accounted
    case shredderRunningChange b => cases ht; exact s.shredderRuns_accounted b
    case emergencyStopAsserted => cases ht; exact s.emergencyOn_accounted
    case emergencyStopReleased => cases ht; exact .of_totals rfl
    case flowEdge => cases ht; exact .of_totals rfl
    case atmospherePeriodExpiry => cases ht; exact .ite (.of_totals rfl)
    case groupAConversion r => cases ht; exact s.groupAConverted_accounted r
    case groupBPassCompletion raw first a => cases ht; exact s.passCompleted_accounted raw first a
    case attributionTick => cases ht; exact s.tickStep_accounted
    case pwmPeriodEnd => cases ht; exact .ite (.of_totals rfl)
    case purgeOnTimeEnd => cases ht; exact .ite (.of_totals rfl)
    all_goals cases hc

/-- Settles O8: a tick adds its increment to captured and to one of attributed and pool; a close adds to neither; every other
step leaves the totals or clears them all. -/
theorem accountLawKept : Obligations.AccountLawKept := by
  intro s t hs ht
  unfold step at ht
  split at ht
  · cases ht
    exact s.idle_accounted hs
  case h_2 rest _ =>
    have hrest : s.Accounted { s with pending := rest } := .of_totals rfl
    exact hrest.trans (exec_accounted _ _ t ht) hs

end Sys2Proof.Machine
end

section
/-! The arithmetic of a tick (`Obligations.TickArithmetic`): what parts 1 to 4 fix, what the division gives, and the vessel
reading. -/

namespace Sys2Proof.Machine

/-! ### Parts 1 to 4 (R95 to R99) -/

section Fix

variable {f : Foam} {p v : Nat}

theorem Foam.fix_gap (f : Foam) : f.fix none = ⟨{ f with baseline := none }, 0, 0⟩ := rfl

theorem Foam.fix_first (h : f.baseline = none) : f.fix (some v) = f.takeBaseline v := by
  simp only [Foam.fix, h]

theorem Foam.fix_next (h : f.baseline = some p) : f.fix (some v) = f.follow p v := by
  simp only [Foam.fix, h]

theorem Foam.takeBaseline_open (h : f.drain ≠ .ended) : f.takeBaseline v = ⟨{ f with baseline := some v, debt := 0 }, 0, 0⟩ :=
  if_neg h

/-- The account of an ended drain is closed with the first baseline behind it (R96). -/
theorem Foam.takeBaseline_ended (h : f.drain = .ended) : f.takeBaseline v =
    ⟨{ f with baseline := some v, debt := 0, drain := .noDrain, drainStart := none }, 0, match f.drainStart with
      | none => 0
      | some d => d - v⟩ := by
  rw [Foam.takeBaseline, if_pos h]
  cases f.drainStart <;> rfl

theorem Foam.follow_drain (h : f.drain = .active) : f.follow p v = ⟨{ f with baseline := some v }, 0, 0⟩ := if_pos h

theorem Foam.follow_loss (h : f.drain ≠ .active) (hv : v < p) :
    f.follow p v = ⟨{ f with baseline := some v, debt := min 2000000 (f.debt + (p - v)) }, 0, 0⟩ :=
  (if_neg h).trans (if_pos hv)

theorem Foam.follow_gain (h : f.drain ≠ .active) (hv : p ≤ v) : f.follow p v =
    ⟨{ f with baseline := some v, debt := f.debt - min (v - p) f.debt }, v - p - min (v - p) f.debt, 0⟩ :=
  (if_neg h).trans (if_neg (Nat.not_lt.mpr hv))

/-- A gain within the debt repays it and gives nothing (R99). -/
theorem Foam.follow_repaying (h : f.drain ≠ .active) (hv : p ≤ v) (hd : v - p ≤ f.debt) :
    f.follow p v = ⟨{ f with baseline := some v, debt := f.debt - (v - p) }, 0, 0⟩ := by
  rw [Foam.follow_gain h hv, Nat.min_eq_left hd, Nat.sub_self]

/-- A gain beyond the debt clears it and gives the rest (R99). -/
theorem Foam.follow_beyond (h : f.drain ≠ .active) (hv : p ≤ v) (hd : f.debt ≤ v - p) :
    f.follow p v = ⟨{ f with baseline := some v, debt := 0 }, v - p - f.debt, 0⟩ := by
  rw [Foam.follow_gain h hv, Nat.min_eq_right hd, Nat.sub_self]

end Fix

/-! ### The division (R100, R101) -/

section Division

variable {α : Type} {d w : Nat} {e : α → Nat}

/-- Floor shares of `d` by weights: short of the exact shares by less than one each. -/
theorem floor_shares_bounds (hw : 0 < w) (d : Nat) (e : α → Nat) (l : List α) :
    w * (l.map fun i => d * e i / w).sum ≤ d * (l.map e).sum
      ∧ d * (l.map e).sum + l.length ≤ w * ((l.map fun i => d * e i / w).sum + l.length) := by
  induction l with
  | nil => simp
  | cons i l ih =>
    have hdiv := Nat.div_add_mod (d * e i) w
    have hmod := Nat.mod_lt (d * e i) hw
    simp only [List.map_cons, List.sum_cons, List.length_cons, Nat.mul_add, Nat.mul_one] at ih ⊢
    omega

/-- The floor shares by the weights' own sum do not exceed what is divided. -/
theorem floor_shares_le {l : List α} (h : w = (l.map e).sum) (hw : 0 < w) : (l.map fun i => d * e i / w).sum ≤ d := by
  have hb := (floor_shares_bounds hw d e l).1
  rw [← h, Nat.mul_comm d w] at hb
  exact Nat.le_of_mul_le_mul_left hb hw

/-- What the floor shares leave is less than the number of shares. -/
theorem lt_floor_shares_add {l : List α} (h : w = (l.map e).sum) (hw : 0 < w) :
    d < (l.map fun i => d * e i / w).sum + l.length := by
  have hb := (floor_shares_bounds hw d e l).2
  have hl : 0 < l.length := by
    rw [List.length_pos_iff]
    rintro rfl
    simp at h
    omega
  rw [← h, Nat.mul_comm d w] at hb
  exact Nat.lt_of_mul_lt_mul_left (show w * d < _ by omega)

variable {s : State} {i : Slot}

theorem State.given_first (h : s.table.openSet.head? = some i) (d : Nat) : s.given d i = s.share d i + s.remainder d := by
  rw [State.given, if_pos h]

theorem State.given_later (h : s.table.openSet.head? ≠ some i) (d : Nat) : s.given d i = s.share d i := by
  rw [State.given, if_neg h, Nat.add_zero]

theorem State.sum_share_le (hw : 0 < s.weight) (d : Nat) : (s.table.openSet.map (s.share d)).sum ≤ d :=
  floor_shares_le (e := s.expectedAt) rfl hw

theorem State.remainder_lt (hw : 0 < s.weight) (d : Nat) : s.remainder d < s.table.openSet.length := by
  have hlt : d < (s.table.openSet.map (s.share d)).sum + s.table.openSet.length :=
    lt_floor_shares_add (e := s.expectedAt) rfl hw
  have hle := s.sum_share_le hw d
  rw [State.remainder]
  omega

/-- The division loses and adds nothing (R101). -/
theorem State.sum_given (hn : s.table.openSet.Nodup) (hw : 0 < s.weight) (d : Nat) : (s.table.openSet.map (s.given d)).sum = d := by
  have hle := s.sum_share_le hw d
  have hrem : s.remainder d = d - (s.table.openSet.map (s.share d)).sum := rfl
  cases ho : s.table.openSet with
  | nil => simp [State.weight, ho] at hw
  | cons i l =>
    rw [ho] at hn hle hrem
    have hlater : l.map (s.given d) = l.map (s.share d) := List.map_congr_left fun j hj => by
      refine State.given_later ?_ d
      rw [ho, List.head?_cons, Ne, Option.some_inj]
      exact (ne_of_mem_of_not_mem hj (List.nodup_cons.mp hn).1).symm
    rw [List.map_cons, List.sum_cons] at hle hrem ⊢
    rw [hlater, State.given_first (by rw [ho]; rfl), hrem]
    omega

end Division

/-! ### The vessel reading (R95) -/

theorem Channel.vesselReading_gap {c : Channel} (h : c.status ≠ .ok ∨ c.ring.length < 8) : c.vesselReading = none :=
  if_neg fun ⟨hok, h8⟩ => by rcases h with h | h <;> [exact h hok; omega]

theorem Channel.vesselReading_full {c : Channel} (hok : c.status = .ok) (h8 : c.ring.length = 8) :
    ∃ v, c.vesselReading = some v ∧ (v : Int) = max 0 (min 2000000 c.settledValue) := by
  refine ⟨_, if_pos ⟨hok, h8⟩, ?_⟩
  rw [clampInt_eq _ _ _ (by decide)]
  omega

/-- Settles O55: parts 1 to 4 case by case, the division by its floor shares, the reading by its mean. -/
theorem tickArithmetic : Obligations.TickArithmetic := by
  refine ⟨fun f => ⟨f.fix_gap, fun v => ⟨fun hb => ?_, fun p hb => ?_⟩⟩, ?_, fun c => ⟨Channel.vesselReading_gap, ?_⟩⟩
  · rw [Foam.fix_first hb]
    exact ⟨Foam.takeBaseline_open, Foam.takeBaseline_ended⟩
  · rw [Foam.fix_next hb]
    exact ⟨Foam.follow_drain, Foam.follow_loss, Foam.follow_repaying, Foam.follow_beyond⟩
  · rintro s d w hn rfl hw
    refine ⟨State.sum_given hn hw d, fun i hi => State.given_later hi d, fun i hi => ?_⟩
    have hrem := State.remainder_lt hw d
    rw [State.given_first hi]
    exact ⟨Nat.le_add_right _ _, Nat.add_lt_add_left hrem _⟩
  · rintro hok h8
    obtain ⟨hlo, hhi⟩ := c.settledValue_bounds
    exact ⟨c.settledValue, hlo, hhi, Channel.vesselReading_full hok h8⟩

end Sys2Proof.Machine
end

section
/-! The attribution tick on a member of the open-window set (`Obligations.TickOnAMember`): the unit's own state, the notice of
BREAKTHROUGH, and the record of a window that stays open or closes. -/

namespace Sys2Proof.Machine

/-! ### What a source was last reported with (R153, R155) -/

namespace Arbiter

/-- A source's condition and value as its owner last reported them. -/
def lastReport (a : Arbiter) (i : SourceNo) : Bool × Option Value := (a.sources[i].cond, a.sources[i].lastValue)

section Reports

variable {a : Arbiter} {i : SourceNo} {x : Source}

theorem put_sources (a : Arbiter) (i j : SourceNo) (x : Source) : (a.put i x).sources[j] = if i = j then x else a.sources[j] := by
  by_cases h : i = j
  · subst h; simp [put]
  · have hv : i.val ≠ j.val := fun e => h (Fin.ext e)
    simp [put, h, hv]

/-- A source replaced by one that was last reported alike. -/
theorem put_lastReport (hc : x.cond = a.sources[i].cond) (hv : x.lastValue = a.sources[i].lastValue) (j : SourceNo) :
    (a.put i x).lastReport j = a.lastReport j := by
  unfold lastReport
  rw [put_sources]
  split
  case isTrue h => subst h; rw [hc, hv]
  case isFalse => rfl

theorem postOne_lastReport (a : Arbiter) (i j : SourceNo) : (a.postOne i).lastReport j = a.lastReport j := by
  unfold postOne
  split
  · exact put_lastReport (a := a) (i := i)
      (x := { a.sources[i] with pending := none, posted := a.sources[i].posted || sourceIsLevel i }) rfl rfl j
  · rfl

theorem postFuel_lastReport (k : Nat) (a : Arbiter) (j : SourceNo) : (postFuel k a).lastReport j = a.lastReport j := by
  induction k generalizing a with
  | zero => rfl
  | succ k ih =>
    unfold postFuel
    split
    · rfl
    · rw [ih, postOne_lastReport]

theorem post_lastReport (a : Arbiter) (j : SourceNo) : a.post.lastReport j = a.lastReport j := postFuel_lastReport 21 a j

/-- A raise is no report (R154). -/
theorem raise_lastReport (a : Arbiter) (now : Time) (i : SourceNo) (sub : Option Nat) (v : Option Value) (j : SourceNo) :
    (a.raise now i sub v).lastReport j = a.lastReport j := by
  unfold raise
  split
  · rfl
  · rw [post_lastReport]
    refine put_lastReport ?_ ?_ j <;> rfl

theorem reportTrue_lastReport (a : Arbiter) (now : Time) (i : SourceNo) (sub : Option Nat) (v : Option Value) :
    (a.reportTrue now i sub v).lastReport i = (true, v) := by
  rw [reportTrue, post_lastReport, lastReport, put_sources, if_pos rfl]

theorem reportFalse_lastReport (a : Arbiter) (i : SourceNo) :
    (a.reportFalse i).lastReport i = (false, a.sources[i].lastValue) := by
  rw [reportFalse, post_lastReport, lastReport, put_sources, if_pos rfl]

/-- After a report the source stands as its owner's condition does, with the value of the change to true (R155). -/
theorem report_lastReport (a : Arbiter) (now : Time) (i : SourceNo) (c : Bool) (sub : Option Nat) (v : Option Value) :
    (a.report now i c sub v).lastReport i = (c, if c && !a.sources[i].cond then v else a.sources[i].lastValue) := by
  unfold report
  cases c <;> cases hi : a.sources[i].cond
  case true.false => exact a.reportTrue_lastReport now i sub v
  case false.true => exact a.reportFalse_lastReport i
  all_goals exact Prod.ext hi rfl

end Reports

end Arbiter

/-! ### Additions and closes report nothing (R114, R116) -/

theorem State.addTotal_lastReport (s : State) (i : TotalNo) (n : Nat) (j : SourceNo) :
    (s.addTotal i n).arb.lastReport j = s.arb.lastReport j := by
  rw [State.addTotal_eq]
  simp only
  split
  · exact Arbiter.raise_lastReport _ _ _ _ _ j
  · rfl

theorem State.addClose_lastReport (s : State) (r : Record) (j : SourceNo) :
    (s.addClose r).arb.lastReport j = s.arb.lastReport j := by
  simp only [State.addClose, State.addTotal_lastReport]

theorem State.books_lastReport (T : Slot → Option Record) (l : List Slot) (s : State) (j : SourceNo) :
    (l.foldl (State.book T) s).arb.lastReport j = s.arb.lastReport j := by
  induction l generalizing s with
  | nil => rfl
  | cons i l ih =>
    rw [List.foldl_cons, ih]
    cases h : T i with
    | none => simp only [State.book, h]
    | some r => rw [State.book_some s h]; exact (Arbiter.raise_lastReport _ _ _ _ _ j).trans (State.addClose_lastReport _ _ j)

/-! ### The unit's own state (R95 to R99, R106) -/

section Tick

variable {s : State} {y : TickReadings} {i j : Slot} {r : Record} {l : List Slot} {k : Nat}

/-- BREAKTHROUGH passes through parts 1 to 4 as it is. -/
theorem Foam.fix_foam_breakthrough (f : Foam) (b : Bool) (v : Option Nat) :
    (Foam.fix { f with breakthrough := b } v).foam = { (f.fix v).foam with breakthrough := b } := by
  cases v with
  | none => rfl
  | some v =>
    cases hb : f.baseline with
    | none =>
      simp only [Foam.fix, hb, Foam.takeBaseline]
      split <;> rfl
    | some p =>
      simp only [Foam.fix, hb, Foam.follow]
      split
      · rfl
      · split <;> rfl

theorem State.tickGained_foam (s : State) (y : TickReadings) :
    (s.tickGained y).foam = { (s.foam.fix y.vessel).foam with breakthrough := s.breakthroughAt y } := by
  rw [← Foam.fix_foam_breakthrough, State.tickGained, State.tickGain, State.tickTotals_frame, State.divide_same]
  rfl

theorem State.countWindows_foam (s : State) : s.countWindows.foam = s.foam := by
  have hclose (t : State) (l : List Slot) : CloseFrame t (l.foldl State.closeWindow t) :=
    foldl_frame (R := CloseFrame) (fun _ => rfl) CloseFrame.trans State.closeWindow_frame l t
  unfold State.countWindows
  simp only
  rw [hclose, State.modRecords_eq]

theorem State.markBreakthrough_foam (s : State) : s.markBreakthrough.foam = s.foam := by
  unfold State.markBreakthrough
  split
  · rw [State.modRecords_eq]
  · rfl

/-- The unit's own state after a tick: what parts 1 to 4 fix, BREAKTHROUGH as judged, and no tick due (R94 to R99, R106). -/
theorem State.tick_foam (s : State) (y : TickReadings) : (s.tick y).foam =
    { (s.foam.fix y.vessel).foam with breakthrough := s.breakthroughAt y, tickDue := none } := by
  have hmark : (s.tickGained y).countWindows.markBreakthrough.foam
      = { (s.foam.fix y.vessel).foam with breakthrough := s.breakthroughAt y } := by
    rw [State.markBreakthrough_foam, State.countWindows_foam, State.tickGained_foam]
  have hdue : { (s.tickGained y).countWindows.markBreakthrough.foam with tickDue := none }
      = { (s.foam.fix y.vessel).foam with breakthrough := s.breakthroughAt y, tickDue := none } := by rw [hmark]
  unfold State.tick
  simp only
  split
  · exact hdue
  · rw [State.judgePermit_frame]
    exact hdue

/-- The notice of BREAKTHROUGH after a tick: no close and no addition reports it (R106, R155). -/
theorem State.tick_lastReport (hn : s.table.openSet.Nodup) (y : TickReadings) :
    (s.tick y).arb.lastReport srcBreakthrough = (s.breakthroughAt y,
      if s.breakthroughAt y && !s.arb.sources[srcBreakthrough].cond then some (.number y.outlet)
        else s.arb.sources[srcBreakthrough].lastValue) := by
  obtain ⟨-, -, -, hbooks⟩ := State.tickClosed_eq hn y (T := (s.tickClosed y).record) fun _ _ => rfl
  rw [← (State.tick_keeps hn y).books.arb, hbooks.arb, State.books_lastReport, State.tickBooks, State.tickTotals,
    State.addTotal_lastReport, State.addTotal_lastReport, State.addTotal_lastReport]
  exact Arbiter.report_lastReport _ _ _ _ _ _

/-! ### The record before the closings (R100, R101, R103) -/

/-- What a tick gives a member of the open-window set (R101). -/
def State.tickPart (s : State) (y : TickReadings) (i : Slot) : Nat :=
  if s.divides then s.given (s.foam.fix y.vessel).dEff i else 0

/-- A member of the open-window set once it is flagged and given its part (R98, R100, R101). -/
def State.tickedRecord (s : State) (y : TickReadings) (i : Slot) (r : Record) : Record :=
  r.ticked y.vessel.isNone (s.foam.drain == .active) (s.tickPart y i)

theorem State.tickGained_record (hn : s.table.openSet.Nodup) (hi : i ∈ s.table.openSet) (y : TickReadings) :
    (s.tickGained y).record i = (s.record i).map (s.tickedRecord y i) := by
  obtain ⟨heff, -⟩ := s.foam.fix_breakthrough (s.breakthroughAt y) y.vessel
  have htab {t u : State} (h : t.table = u.table) : t.record i = u.record i := by rw [State.record, h, State.record]
  rw [State.tickGained, State.tickGain, htab (State.tickTotals_table _ _ _ _)]
  refine (State.divide_record ?_ _ _ _ i).trans ((if_pos ?_).trans ?_)
  · exact hn
  · exact hi
  · unfold State.tickedRecord State.tickPart
    rw [← heff]
    rfl

theorem State.tickCounted_member (hn : s.table.openSet.Nodup) (hi : i ∈ s.table.openSet) (hr : s.record i = some r)
    (y : TickReadings) : (s.tickCounted y).record i = some (s.tickedRecord y i r).countDown := by
  have hopen : (s.tickGained y).table.openSet = s.table.openSet := by rw [State.tickGained_table]
  rw [State.tickCounted, State.modRecords_record (hopen ▸ hn), if_pos (hopen ▸ hi), State.tickGained_record hn hi, hr]
  rfl

theorem State.tickCounted_frame (s : State) (y : TickReadings) : TickFrame s (s.tickCounted y) :=
  (TickFrame.trans (t := s.judgeBreakthrough y) rfl (State.tickGain_frame _ _)).trans (State.modRecords_tickFrame _ _ _)

/-- The windows a tick closes are the members with one tick left or none (R103). -/
theorem State.mem_lastTicks_iff (hi : i ∈ s.table.openSet) (hr : s.record i = some r) (hk : r.ticks = some k) :
    i ∈ s.lastTicks ↔ k ≤ 1 := by
  rw [State.lastTicks, List.mem_filter, hr, Option.any_some, hk, Option.any_some, decide_eq_true_iff]
  exact and_iff_right hi

/-! ### A window that closes (R18, R103, R104) -/

theorem State.closeWindows_closed (hn : l.Nodup) (hl : ∀ j ∈ l, s.record j ≠ none) (hi : i ∈ l) (hr : s.record i = some r) :
    (l.foldl State.closeWindow s).record i = some ((r.foamOutcome (s.item iGammaMin)).close s.clock) := by
  induction l generalizing s with
  | nil => cases hi
  | cons m l ih =>
    obtain ⟨hm, hnl⟩ := List.nodup_cons.mp hn
    obtain ⟨q, hq⟩ := Option.ne_none_iff_exists'.mp (hl m (by simp))
    have hl' : ∀ j ∈ l, (s.closeWindow m).record j ≠ none := fun j hj => by
      rw [State.closeWindow_record hq (ne_of_mem_of_not_mem hj hm).symm]
      exact hl j (by simp [hj])
    rw [List.foldl_cons]
    rcases List.mem_cons.mp hi with rfl | hi
    · rw [State.closeWindows_record hnl hl' hm, State.closeWindow_refiled hr i, if_pos rfl]
    · have hr' := (State.closeWindow_record hq (ne_of_mem_of_not_mem hi hm).symm).trans hr
      rw [ih hnl hl' hi hr', State.closeWindow_frame]
      rfl

/-- The foam outcome, written out (R104, R105). -/
theorem Record.foamOutcome_noFoam (h : r.expected = 0) (g : Nat) :
    r.foamOutcome g = { r with gamma := none, foamVerdict := some .noFoam } := if_pos h

theorem Record.foamOutcome_ratio (h : 0 < r.expected) (g : Nat) : r.foamOutcome g = { r with
    gamma := some (permille r.foam r.expected)
    foamVerdict := some (if g ≤ permille r.foam r.expected then .adequate else .low)
    flags := { r.flags with ratioSaturated := r.flags.ratioSaturated || ratioExceeds r.foam r.expected } } :=
  if_neg (by omega)

/-! ### After the closings (R73, R106) -/

/-- The judgement of the permit moves no record but the head of the shred queue (R14). -/
theorem State.judgePermit_record (hi : i ∉ s.table.shredQueue) : s.judgePermit.record i = s.record i := by
  by_cases hw : s.feeder.state = .waitPermit
  · cases hq : s.table.shredQueue with
    | nil => rw [State.judgePermit_empty hw hq]; rfl
    | cons k rest =>
      rw [State.judgePermit_queue hw (by simp [hq])]
      split
      · have hki : k.val ≠ i.val := fun e => hi (by simp [hq, Fin.ext e])
        rw [State.enterOpening_eq hq]
        simp [State.record, hki]
      · rfl
  · rw [State.judgePermit_other hw]

/-- The windows still open gain BREAKTHROUGH where it holds (R106). -/
theorem State.markBreakthrough_member (hn : s.table.openSet.Nodup) (hi : i ∈ s.table.openSet) :
    s.markBreakthrough.record i = (s.record i).map (Record.flagIf s.foam.breakthrough .breakthrough) := by
  unfold State.markBreakthrough
  split
  case isTrue hb => rw [State.modRecords_record hn, if_pos hi, hb]; rfl
  case isFalse hb =>
    rw [Bool.not_eq_true] at hb
    cases hr : s.record i <;> simp [hb, Record.flagIf, Flags.setIf]

/-- A window that stays open after a tick is marked, and not judged again (R73, R106). -/
theorem State.tick_open (hn : s.table.openSet.Nodup) (hi : i ∈ (s.tickClosed y).table.openSet)
    (hq : i ∉ (s.tickClosed y).table.shredQueue) :
    (s.tick y).record i = ((s.tickClosed y).record i).map (Record.flagIf (s.breakthroughAt y) .breakthrough) := by
  obtain ⟨hopen, -, -, -⟩ := State.tickClosed_eq hn y (T := (s.tickClosed y).record) fun _ _ => rfl
  have hclosed : (s.tickClosed y).table.openSet.Nodup := by rw [hopen]; exact hn.filter _
  rw [← State.countWindows_eq hn y] at hi hq hclosed ⊢
  have hfoam : (s.tickGained y).countWindows.foam.breakthrough = s.breakthroughAt y := by
    rw [State.countWindows_foam, State.tickGained_foam]
  rw [← hfoam, ← State.markBreakthrough_member hclosed hi]
  unfold State.tick
  simp only
  split
  · rfl
  · exact State.judgePermit_record (by rwa [← State.markBreakthrough_shredQueue] at hq)

end Tick

/-! ### The obligation -/

section Member

variable {s : State} {y : TickReadings} {i : Slot} {r : Record} {k : Nat}

/-- A member of the open-window set is not in the shred queue behind the closings (R4). -/
theorem State.Filed.not_mem_shredQueue (h : s.Filed) (hi : i ∈ s.table.openSet) (y : TickReadings) :
    i ∉ (s.tickClosed y).table.shredQueue := by
  obtain ⟨-, -, hqueue, -⟩ := State.tickClosed_eq h.opened.1 y (T := (s.tickClosed y).record) fun _ _ => rfl
  intro hin
  have hphase := (h.opened.2 i).mp hi
  rw [(h.shred.2 i).mp (hqueue i hin)] at hphase
  cases hphase

/-- A window with more than one tick left stays open, counted down (R103, R106). -/
theorem State.Filed.tick_stays (h : s.Filed) (hi : i ∈ s.table.openSet) (hr : s.record i = some r) (hk : r.ticks = some k)
    (h1 : 1 < k) (y : TickReadings) : i ∈ (s.tick y).table.openSet
      ∧ (s.tick y).record i = some ((s.tickedRecord y i r).countDown.flagIf (s.breakthroughAt y) .breakthrough) := by
  have hn := h.opened.1
  obtain ⟨hopen, -, -, -⟩ := State.tickClosed_eq hn y (T := (s.tickClosed y).record) fun _ _ => rfl
  have hnl : s.lastTicks.Nodup := hn.filter _
  have hlast : i ∉ s.lastTicks := fun hin => by
    have := (State.mem_lastTicks_iff hi hr hk).mp hin
    omega
  have hin : i ∈ (s.tickClosed y).table.openSet := by
    rw [hopen]
    exact List.mem_filter.mpr ⟨hi, by simp [hlast]⟩
  refine ⟨by rw [(State.tick_keeps hn y).openSet]; exact hin, ?_⟩
  rw [State.tick_open hn hin (h.not_mem_shredQueue hi y), State.tickClosed,
    State.closeWindows_record hnl (fun j hj => State.tickCounted_record hn hj y) hlast,
    State.tickCounted_member hn hi hr y]
  rfl

/-- A window at its last tick closes with its foam outcome (R18, R103, R104). -/
theorem State.Filed.tick_closes (h : s.Filed) (hi : i ∈ s.table.openSet) (hr : s.record i = some r) (hk : r.ticks = some k)
    (h1 : k ≤ 1) (y : TickReadings) : i ∉ (s.tick y).table.openSet ∧ i ∈ (s.tick y).table.closedList
      ∧ (s.tick y).record i
        = some (((s.tickedRecord y i r).countDown.foamOutcome (s.item iGammaMin)).close s.clock) := by
  have hn := h.opened.1
  have hkeep := State.tick_keeps hn y
  obtain ⟨hopen, hclosed, -, -⟩ := State.tickClosed_eq hn y (T := (s.tickClosed y).record) fun _ _ => rfl
  have hnl : s.lastTicks.Nodup := hn.filter _
  have hlast : i ∈ s.lastTicks := (State.mem_lastTicks_iff hi hr hk).mpr h1
  have hout : i ∉ (s.tickClosed y).table.openSet := by rw [hopen]; simp [hlast]
  have hcount := s.tickCounted_frame y
  have hitem : (s.tickCounted y).item iGammaMin = s.item iGammaMin := by rw [hcount]; rfl
  have hclock : (s.tickCounted y).clock = s.clock := by rw [hcount]
  refine ⟨by rw [hkeep.openSet]; exact hout, by rw [hkeep.closedList, hclosed]; simp [hlast], ?_⟩
  rw [hkeep.record i hout (h.not_mem_shredQueue hi y), State.tickClosed,
    State.closeWindows_closed hnl (fun j hj => State.tickCounted_record hn hj y) hlast
      (State.tickCounted_member hn hi hr y), hitem, hclock]

/-- The command of a tick that is due (R94). -/
theorem exec_attributionTick (h : s.foam.tickDue = some y) : exec .attributionTick s = .next (s.tick y) := by
  show Host.Outcome.next s.tickStep = _
  rw [State.tickStep_some h]

/-- A member of the open-window set with its part and its flags, written out (R98, R100, R101). -/
theorem State.tickedRecord_eq (s : State) (y : TickReadings) (i : Slot) (r : Record) : s.tickedRecord y i r = { r with
    foam := min 4294967295 (r.foam + if 0 < s.weight then s.given (s.foam.fix y.vessel).dEff i else 0)
    flags := { r.flags with
      sensorGap := r.flags.sensorGap || y.vessel.isNone
      drainGap := r.flags.drainGap || (s.foam.drain == .active) } } := by
  unfold State.tickedRecord Record.ticked Record.gain State.tickPart State.divides
  rw [satAdd_eq]
  simp only [decide_eq_true_iff]
  rfl

end Member

/-- Settles O56: the unit's state and its notice, then the window that stays open and the window that closes. -/
theorem tickOnAMember : Obligations.TickOnAMember := by
  rintro s i r q k y x htab hdue hi hr hk rfl hq
  have h := s.tableLaw_iff.mp htab
  rw [← s.tickedRecord_eq y i r] at hq
  have hticks : q.ticks = some k := by rw [hq]; exact hk
  have hexp : q.expected = r.expected := by rw [hq]; rfl
  have hfoam := s.tick_foam y
  have hbreak : (s.tick y).foam.breakthrough = s.breakthroughAt y := by rw [hfoam]
  obtain ⟨hcond, hvalue⟩ := Prod.mk.inj (State.tick_lastReport h.opened.1 y)
  refine ⟨s.tick y, exec_attributionTick hdue, ?_, ?_, ?_, ?_, ?_, ?_⟩
  · rw [hbreak, hfoam]
  · rw [hbreak, State.breakthroughAt_eq, decide_eq_true_iff]
  · rw [hbreak]
    exact hcond
  · intro hold hnew
    rw [hbreak] at hnew
    rw [hvalue, hnew, hold]
    rfl
  · intro h1
    obtain ⟨hopen, hrec⟩ := h.tick_stays hi hr hk h1 y
    refine ⟨hopen, ?_⟩
    rw [hrec, ← hq, hbreak, Record.countDown, hticks]
    rfl
  · intro h1
    obtain ⟨hopen, hclosed, hrec⟩ := h.tick_closes hi hr hk h1 y
    rw [← hq] at hrec
    refine ⟨hopen, hclosed, fun h0 => ?_, ?_⟩
    · rw [hrec, Record.foamOutcome_noFoam (r := q.countDown) (hexp.trans h0)]
      rfl
    · rintro hpos g rfl
      rw [hrec, Record.foamOutcome_ratio (r := q.countDown) (hexp.symm ▸ hpos), ← hexp]
      rfl

end Sys2Proof.Machine
end

section
/-! The closing additions and the shift totals (`Obligations.AdditionsToTotals`, `Obligations.ReadAndClearTotals`): the account
each part of a close goes to, and the content of READ TOTALS as twenty fields of five characters before the two clocks. -/

namespace Sys2Proof.Machine

/-! ### The accounts of a close (R113, R115, R116) -/

section Accounts

variable {r : Record} {c k : TotalNo}

/-- The recovered totals stand in the order of the gas codes. -/
theorem totRecovered_code (g : Gas) : (totRecovered (some g)).val + 1 = g.code := by cases g <;> rfl

/-- The verdict counts stand in the order of the verdict codes, from index 9. -/
theorem totVerdict_code (v : Verdict) : (totVerdict (some v)).val = 8 + v.code := by cases v <;> rfl

/-- The foam counts stand in the order of the foam verdict codes, from index 16. -/
theorem totFoam_code (v : FoamVerdict) : (totFoam v).val = 15 + v.code := by cases v <;> rfl

/-- The recovered mass counts under the measured class, else under the declared one, else as UNDECLARED (R115). -/
theorem Record.eq_totRecovered (hm : ∀ g, r.measured = some g → c.val + 1 = g.code)
    (hd : ∀ g, r.measured = none → r.declared = some g → c.val + 1 = g.code)
    (hu : r.measured = none → r.declared = none → c = 3) : c = totRecovered r.countedClass := by
  have of_code (g : Gas) (h : c.val + 1 = g.code) : c = totRecovered (some g) :=
    Fin.ext (Nat.succ.inj (h.trans (totRecovered_code g).symm))
  unfold Record.countedClass
  cases hmeasured : r.measured with
  | some g => exact of_code g (hm g hmeasured)
  | none =>
    cases hdeclared : r.declared with
    | some g => exact of_code g (hd g hmeasured hdeclared)
    | none => exact hu hmeasured hdeclared

/-- A close counts under its extraction verdict, or under none (R116). -/
theorem Record.eq_totVerdict (hv : ∀ v, r.verdict = some v → k.val = 8 + v.code) (hn : r.verdict = none → k = 15) :
    k = totVerdict r.verdict := by
  cases hverdict : r.verdict with
  | some v => exact Fin.ext ((hv v hverdict).trans (totVerdict_code v).symm)
  | none => exact hn hverdict

end Accounts

/-- Settles O30: the addition exact, setting its indicator, and with its indicator set; then the accounts of a close. -/
theorem additionsToTotals : Obligations.AdditionsToTotals := by
  refine ⟨fun s i n => ⟨fun hn => ?_, fun hn hclear => ?_, fun hn hset => ?_⟩,
    fun s r x c k f hx hm hd hu hv hnone hf => ?_⟩
  · rw [State.addTotal_eq, Total.add_exact hn]
    simp only [Bool.and_not_self, Bool.false_eq_true, if_false]
  · rw [State.addTotal_eq, Total.add_saturates hn, hclear]
    rfl
  · rw [State.addTotal_eq, Total.add_saturates hn, hset]
    rfl
  · have hfoam : f = totFoam x := Fin.ext (hf.trans (totFoam_code x).symm)
    rw [State.addClose, Record.eq_totRecovered hm hd hu, Record.eq_totVerdict hv hnone, hfoam, hx]
    rfl

/-! ### The content of READ TOTALS (R118, R119, R188) -/

/-- A total and its indicator in a reply (R118). -/
def Total.chars (t : Total) : List Byte := num4 t.value ++ markByte t.saturated

theorem Total.chars_length (t : Total) : t.chars.length = 5 := by simp [Total.chars]

section Content

variable (s : State)

/-- The part of the content before the two clocks. -/
def State.totalsChars : List Byte := s.totals.toList.flatMap Total.chars

theorem State.totalsContent_eq : s.totalsContent = s.totalsChars ++ (word4 s.totalsStart ++ word4 s.clock) :=
  List.append_assoc _ _ _

theorem State.totalsChars_length : s.totalsChars.length = 100 := by
  rw [State.totalsChars, length_flatMap_width _ fun t _ => t.chars_length, Vector.length_toList]

theorem State.totalsContent_length : s.totalsContent.length = 108 := by
  simp [State.totalsContent_eq, s.totalsChars_length]

/-- Each total stands at five times its index. -/
theorem State.totalsContent_total (i : TotalNo) : (s.totalsContent.drop (5 * i.val)).take 5 = s.totals[i].chars := by
  have hi := i.isLt
  have hlen := s.totalsChars_length
  have hget : s.totals.toList[i.val]? = some s.totals[i] := by simp
  rw [State.totalsContent_eq, List.drop_append_of_le_length (by omega),
    List.take_append_of_le_length (by rw [List.length_drop]; omega)]
  exact flatMap_width Total.chars_length hget

theorem State.totalsContent_clocks : s.totalsContent.drop 100 = word4 s.totalsStart ++ word4 s.clock := by
  rw [State.totalsContent_eq, List.drop_left' s.totalsChars_length]

end Content

/-- Settles O31: one content, read off field by field, answers both requests. -/
theorem readAndClearTotals : Obligations.ReadAndClearTotals := by
  intro s tag hrx
  exact ⟨s.totalsContent, s.totalsContent_length, s.totalsContent_total, s.totalsContent_clocks, next_request hrx rfl,
    next_request hrx rfl⟩

end Sys2Proof.Machine
end

section
/-! What a step can do to a channel (R121, R126 to R135), said once: only a conversion, SET CHANNEL and device reset write a
channel record, and each of them leaves value and ring within its limits (`Obligations.ChannelLawKept`). -/

namespace Sys2Proof.Machine

/-! ### The law of one channel (R126, R129, R135) -/

/-- Value and ring within the limits, at most eight values, and in NO_DATA neither a raw reading nor a ring. -/
structure Channel.Lawful (x : Channel) : Prop where
  low_le : x.low ≤ x.value
  le_high : x.value ≤ x.high
  ring_length : x.ring.length ≤ 8
  ring_within : ∀ v ∈ x.ring, x.low ≤ v ∧ v ≤ x.high
  no_data : x.status = .noData → x.raw = none ∧ x.ring = []

theorem State.channelLaw_iff (s : State) : s.channelLaw ↔ ∀ c : ChannelNo, (s.channel c).Lawful :=
  forall_congr' fun _ => ⟨fun ⟨hl, hh, hn, hr, hd⟩ => ⟨hl, hh, hn, hr, hd⟩, fun ⟨hl, hh, hn, hr, hd⟩ => ⟨hl, hh, hn, hr, hd⟩⟩

theorem clampInt_within {lo hi : Int} (h : lo ≤ hi) (x : Int) : lo ≤ clampInt lo hi x ∧ clampInt lo hi x ≤ hi := by
  rw [clampInt_eq lo hi x h]
  omega

theorem ringPush_length {l : List Int} (h : l.length ≤ 8) (v : Int) : (ringPush l v).length ≤ 8 := by
  rw [ringPush_eq, List.length_append, List.length_singleton]
  split
  · omega
  · rw [List.length_drop]; omega

theorem mem_ringPush {l : List Int} {v x : Int} (h : x ∈ ringPush l v) : x ∈ l ∨ x = v := by
  rw [ringPush_eq, List.mem_append, List.mem_singleton] at h
  refine h.imp_left fun hx => ?_
  split at hx
  · exact hx
  · exact List.mem_of_mem_drop hx

section Channel

variable {x y : Channel}

/-- A good reading is clamped into the limits, then written to value and ring; a fault writes neither (R126 to R129). -/
theorem Channel.Lawful.convert (h : x.Lawful) (r : Raw) : (x.convert r).Lawful := by
  unfold Channel.convert
  split
  · exact { h with no_data := nofun }
  split
  · exact { h with no_data := nofun }
  obtain ⟨hlow, hhigh⟩ := clampInt_within (h.low_le.trans h.le_high) (x.zero + (r.toNat * x.span + 32767) / 65535)
  refine ⟨hlow, hhigh, ?_, fun v hv => ?_, nofun⟩
  · refine ringPush_length ?_ _
    split
    · exact Nat.zero_le 8
    · exact h.ring_length
  · rcases mem_ringPush hv with hv | rfl
    · split at hv
      · cases hv
      · exact h.ring_within v hv
    · exact ⟨hlow, hhigh⟩

/-- SET CHANNEL clamps the held value into the new limits and empties the ring (R132). -/
theorem Channel.Lawful.configure (h : x.Lawful) {u : ChannelSetup} (hu : u.low ≤ u.high) : (x.configure u).Lawful :=
  have ⟨hlow, hhigh⟩ := clampInt_within hu x.value
  ⟨hlow, hhigh, Nat.zero_le 8, nofun, fun hd => ⟨(h.no_data hd).1, rfl⟩⟩

/-- What a step can do to the record of a channel: nothing, a conversion (R126), SET CHANNEL with its limits in order (R132), or
device reset (R121). -/
inductive ChannelMove (x : Channel) : Channel → Prop
  | same : ChannelMove x x
  | converted (r : Raw) : ChannelMove x (x.convert r)
  | configured (u : ChannelSetup) (h : u.low ≤ u.high) : ChannelMove x (x.configure u)
  | reset (c : ChannelNo) : ChannelMove x (channelReset c)

theorem ChannelMove.lawful (m : ChannelMove x y) (h : x.Lawful) : y.Lawful := by
  cases m with
  | same => exact h
  | converted r => exact h.convert r
  | configured u hu => exact h.configure hu
  | reset c => exact State.reset_channel c ▸ State.reset.channelLaw_iff.mp State.reset_channelLaw c

end Channel

/-! ### Moves of the whole Scanner -/

/-- A step that moves each channel record by one move at most. -/
def State.Scans (s t : State) : Prop := ∀ c : ChannelNo, ChannelMove (s.channel c) (t.channel c)

theorem State.Scans.channelLaw {s t : State} (h : s.Scans t) (hs : s.channelLaw) : t.channelLaw :=
  t.channelLaw_iff.mpr fun c => (h c).lawful (s.channelLaw_iff.mp hs c)

/-- What leaves the channels may follow. -/
theorem State.Scans.then_channels {s t u : State} (h : s.Scans t) (k : u.channels = t.channels) : s.Scans u := fun c => by
  have hc : u.channel c = t.channel c := congrArg (fun v : Vector Channel 16 => v[c]) k
  rw [hc]
  exact h c

theorem State.Scans.of_channels {s t : State} (h : t.channels = s.channels) : s.Scans t :=
  State.Scans.then_channels (t := s) (fun _ => .same) h

/-- A change of one channel record is a move of the Scanner where it is a move of that record. -/
theorem State.modChannel_scans {s : State} {c : ChannelNo} {f : Channel → Channel}
    (h : ChannelMove (s.channel c) (f (s.channel c))) : s.Scans (s.modChannel c f) := fun d => by
  rw [State.modChannel_channel]
  split
  case isTrue hd => exact hd ▸ h
  case isFalse => exact .same

theorem State.takePass_scans (s : State) (raw : Vector Raw 8) : s.Scans (s.takePass raw) := fun c => by
  by_cases hc : c.val < 8
  · have hmove := s.takePass_groupA raw ⟨c.val, hc⟩
    rw [show c = ⟨(⟨c.val, hc⟩ : Fin 8).val, by omega⟩ from rfl, hmove]
    exact .same
  · have hmove := s.takePass_groupB raw ⟨c.val - 8, by omega⟩
    have hnumber : c = ⟨8 + (⟨c.val - 8, by omega⟩ : Fin 8).val, by simp only; omega⟩ := Fin.ext (by simp only; omega)
    rw [hnumber, hmove]
    exact .converted _

theorem takenSetup_ordered (z p l h : Int) (b : Nat) : (takenSetup z p l h b).low ≤ (takenSetup z p l h b).high :=
  le_max_left _ _

/-! ### What leaves the channels alone -/

section Alone

variable {s t : State}

theorem GateFrame.channels (h : GateFrame s t) : t.channels = s.channels := by rw [h]

theorem HaltFrame.channels (h : HaltFrame s t) : t.channels = s.channels := by rw [h]

theorem StationFrame.channels (h : StationFrame s t) : t.channels = s.channels := by rw [h]

theorem CloseFrame.channels (h : CloseFrame s t) : t.channels = s.channels := by rw [h]

theorem ReaderFrame.channels (h : ReaderFrame s t) : t.channels = s.channels := by rw [h]

/-- A case that changes nothing where its condition fails. -/
theorem State.ite_channels {c : Prop} [Decidable c] (h : t.channels = s.channels) :
    (if c then t else s).channels = s.channels := by
  split
  · exact h
  · rfl

/-! ### The gate and the stations (R25 to R48, R70 to R79) -/

theorem State.gateOpened_channels (s : State) : s.gateOpened.channels = s.channels := by
  unfold State.gateOpened
  simp only
  split
  · rfl
  · exact State.ite_channels rfl

theorem State.gateShut_channels (s : State) : s.gateShut.channels = s.channels := by
  unfold State.gateShut
  simp only
  split
  · rfl
  · exact State.ite_channels (State.feederToIdle_frame _).channels

theorem State.openExpired_channels (s : State) : s.openExpired.channels = s.channels :=
  State.ite_channels (s.returnToHead_frame.halt.trans (State.enterJam_frame _ _)).channels

theorem State.beamCleared_channels (s : State) : s.beamCleared.channels = s.channels :=
  State.ite_channels (s := { s with pins := { s.pins with beam := false } })
    ((State.feedEvent_frame _ _ _).trans (State.enterClosing_frame _)).channels

theorem State.shredderRuns_channels (s : State) (b : Bool) : (s.shredderRuns b).channels = s.channels := by
  unfold State.shredderRuns
  split
  · rfl
  · exact (State.judgePermit_frame _).channels

theorem State.clampClosed_channels (s : State) (n : StationNo) : (s.clampClosed n).channels = s.channels := by
  unfold State.clampClosed
  simp only
  split
  · rfl
  · exact State.ite_channels (State.enterTaring_frame _ n).channels

theorem State.clampOpen_channels (s : State) (n : StationNo) : (s.clampOpen n).channels = s.channels := by
  unfold State.clampOpen
  simp only
  split
  · rfl
  split
  case h_6 => exact (State.enterAwait_frame _ n).channels
  case h_7 => rfl
  all_goals exact (State.abort_frame _ n .clampOpened).channels

theorem State.takeProbe_channels (s : State) (n : StationNo) (p : BitVec 2) :
    ((s.analyserSeen n p).takeProbe n p).channels = s.channels := (State.takeProbe_frame _ n p).channels

theorem State.evacExpired_channels (s : State) (n : StationNo) (p : BitVec 2) : (s.evacExpired n p).channels = s.channels := by
  refine State.ite_channels ?_
  split
  · exact (s.evacTimedOut_frame n).channels
  · exact (State.evacTimedOut_frame _ n).channels.trans (s.takeProbe_channels n p)

/-! ### The line, the configuration and the passing of time (R137 to R172, R189) -/

theorem State.setLine_channels (s : State) (l : LineState) : (s.setLine l).channels = s.channels :=
  (State.judgePermit_frame _).channels

theorem State.stopLine_channels (s : State) : s.stopLine.channels = s.channels := by
  unfold State.stopLine
  split
  · rfl
  · have hstops : s.stationsStopped.channels = s.channels :=
      (State.stationStops_frame _ { s with line := { s.line with state := .stop } }).channels
    exact s.enterStop_haltFrame.channels.trans hstops

theorem State.emergencyOn_channels (s : State) : s.emergencyOn.channels = s.channels := by
  unfold State.emergencyOn
  simp only
  split
  · rfl
  · exact State.stopLine_channels _

theorem State.itemEffect_channels (s : State) (i : Item) : (s.itemEffect i).channels = s.channels := by
  unfold State.itemEffect State.newPeriod
  split
  · split
    · rfl
    · split <;> rfl
  · split
    · rfl
    · split
      · rfl
      · exact State.ite_channels s.feederPass_frame.channels

theorem State.idle_channels (s : State) : s.idle.channels = s.channels := by
  unfold State.idle
  split <;> rfl

theorem State.withdrawSlot_channels (s : State) (i : Slot) : (s.withdrawSlot i).channels = s.channels := by
  have hclose : ((s.modRecord i fun r => { r with foamVerdict := some .notShredded }).closeSlot i).channels = s.channels :=
    (State.closeSlot_frame _ i).channels
  unfold State.withdrawSlot
  simp only
  split
  · exact (State.judgePermit_frame _).channels.trans hclose
  · exact hclose

theorem State.feedCleared_channels (s : State) :
    (if s.table.feeding.isSome then s.feedEvent s.clock true else s).freeJam.channels = s.channels :=
  (State.freeJam_frame _).channels.trans (State.ite_channels (s.feedEvent_frame _ _).channels)

end Alone

/-! ### Conversions (R122 to R125) -/

theorem State.groupAConverted_scans (s : State) (r : Raw) : s.Scans (s.groupAConverted r) :=
  (State.modChannel_scans (.converted r)).then_channels
    (t := s.modChannel ⟨s.convertedA.val, by omega⟩ fun x => x.convert r) (State.stationConverted_frame _ _).channels

theorem State.readPass_channels (s : State) (m a : Bool) (x : PassReader) : (s.readPass m a x).channels = s.channels := by
  by_cases hx : x = .atmosphere
  · subst hx
    show s.atmospherePass.channels = s.channels
    rw [s.atmospherePass_read.frame]
  · exact (State.readPass_reader hx s m a).channels

theorem State.passConverted_scans (s : State) (p : Pass) (raw : Vector Raw 8) : s.Scans (s.passConverted p raw) := fun c => by
  rw [s.passConverted_channel p raw c]
  exact s.takePass_scans raw c

theorem State.passCompleted_scans (s : State) (raw : Vector Raw 8) (first : List PassReader) (a : Bool) :
    s.Scans (s.passCompleted raw first a) := by
  unfold State.passCompleted
  split
  · exact .of_channels rfl
  case h_2 p _ =>
    refine (s.passConverted_scans p raw).then_channels ?_
    exact foldl_frame (R := fun s t => t.channels = s.channels) (fun _ => rfl) (fun h k => k.trans h)
      (fun t x => t.readPass_channels _ _ x) _ _

/-! ### The owners of the requests (R184) -/

section Owners

variable {owner : State → State × Answer} {Q : State → State → Prop}

theorem Acts.channels (h : Acts owner Q) (hQ : ∀ s t, Q s t → t.channels = s.channels) (s : State) : s.Scans (owner s).1 :=
  .of_channels (h.keeps (P := fun t => t.channels = s.channels) (fun t u ht hq => (hQ t u hq).trans ht) rfl)

/-- SET CHANNEL writes one channel, with its limits in order (R121, R132). -/
theorem ansSetChannel_scans (c : Byte) (z sp lo hi bd : Word) (s : State) : s.Scans (ansSetChannel c z sp lo hi bd s).1 := by
  unfold ansSetChannel
  split
  · exact .of_channels rfl
  · exact State.modChannel_scans (.configured _ (takenSetup_ordered _ _ _ _ _))

/-- Every owner but SET CHANNEL's leaves the channels. -/
theorem IsOwner.scans (h : IsOwner owner) (s : State) : s.Scans (owner s).1 := by
  cases h with
  | admission => exact (ansAdmit_acts _ _ _ _ _).channels (fun _ _ ⟨_, _, _, _, _, _, _, ht⟩ => ht ▸ rfl) s
  | query => exact (ansQuery_acts _ _).channels (fun _ _ ht => ht ▸ rfl) s
  | listTable => exact ansListTable_acts.channels (fun _ _ ht => ht ▸ rfl) s
  | withdraw => exact (ansWithdraw_acts _).channels (fun s _ ⟨i, _, _, _, ht⟩ => ht ▸ s.withdrawSlot_channels i) s
  | release => exact (ansRelease_acts _).channels (fun _ _ ⟨_, _, _, _, ht⟩ => ht ▸ (State.judgeIdle_frame _).channels) s
  | takeClosed => exact (ansTakeClosed_acts _).channels (fun _ _ ht => ht.elim (· ▸ rfl) (· ▸ rfl)) s
  | beginAttempt =>
    exact (ansBegin_acts _ _).channels (fun s _ ⟨n, i, _, _, _, _, _, _, ht⟩ => ht ▸ (s.beginAttempt_frame n i).channels) s
  | abort => exact (ansAbort_acts _).channels (fun s _ ⟨n, _, _, ht⟩ => ht ▸ (s.abort_frame n _).channels) s
  | waive => exact (ansWaive_acts _).channels (fun _ _ ⟨_, _, _, _, ht⟩ => ht ▸ rfl) s
  | clearStation => exact (ansClearStation_acts _).channels (fun _ _ ⟨_, _, _, ht⟩ => ht ▸ rfl) s
  | receiverChanged => exact (ansReceiverChanged_acts _).channels (fun _ _ ⟨_, _, _, ht⟩ => ht ▸ rfl) s
  | readStation => exact (ansReadStation_acts _).channels (fun _ _ ⟨_, _, ht⟩ => ht ▸ rfl) s
  | feedClear => exact ansFeedClear_acts.channels (fun s _ ⟨_, ht⟩ => ht ▸ s.feedCleared_channels) s
  | feedReturn =>
    exact ansFeedReturn_acts.channels
      (fun s _ ⟨_, ht⟩ => ht ▸ (s.returnToHead_frame.trans (State.freeJam_frame _)).channels) s
  | holdOn => exact ansHoldOn_acts.channels (fun _ _ ht => ht ▸ rfl) s
  | holdOff => exact ansHoldOff_acts.channels (fun _ _ ht => ht ▸ rfl) s
  | tripReset => exact ansTripReset_acts.channels (fun _ _ ⟨_, ht⟩ => ht ▸ (State.judgePermit_frame _).channels) s
  | drainBegin => exact ansDrainBegin_acts.channels (fun _ _ ⟨_, ht⟩ => ht ▸ rfl) s
  | drainEnd => exact ansDrainEnd_acts.channels (fun _ _ ⟨_, ht⟩ => ht ▸ rfl) s
  | setConfig => exact (ansSetConfig_acts _ _).channels (fun _ _ ⟨i, _, ht⟩ => ht ▸ State.itemEffect_channels _ i) s
  | readConfig => exact ansReadConfig_acts.channels (fun _ _ ht => ht ▸ rfl) s
  | setChannel => exact ansSetChannel_scans _ _ _ _ _ _ s
  | readChannel => exact (ansReadChannel_acts _).channels (fun _ _ ht => ht ▸ rfl) s
  | setSource => exact (ansSetSource_acts _ _).channels (fun _ _ ⟨_, ht⟩ => ht ▸ rfl) s
  | setMask => exact (ansSetMask_acts _ _).channels (fun _ _ ⟨_, ht⟩ => ht ▸ rfl) s
  | takeNotices => exact (ansTakeNotices_acts _).channels (fun _ _ ⟨_, ht⟩ => ht ▸ rfl) s
  | readStatus => exact ansReadStatus_acts.channels (fun _ _ ht => ht ▸ rfl) s
  | readTotals => exact ansReadTotals_acts.channels (fun _ _ ht => ht ▸ rfl) s
  | clearTotals => exact ansClearTotals_acts.channels (fun _ _ ht => ht ▸ rfl) s
  | lineRun => exact ansLineRun_acts.channels (fun s _ ht => ht ▸ s.setLine_channels _) s
  | lineHold => exact ansLineHold_acts.channels (fun s _ ht => ht ▸ s.setLine_channels _) s
  | lineStop => exact ansLineStop_acts.channels (fun s _ ht => ht ▸ s.stopLine_channels) s
  | lineResume => exact ansLineResume_acts.channels (fun s _ ht => ht ▸ s.setLine_channels _) s
  | clearLine => exact ansClearLine_acts.channels (fun _ _ ⟨_, ht⟩ => ht ▸ rfl) s
  | badKind => exact badKind_acts.channels (fun _ _ ht => ht ▸ rfl) s
  | badLength => exact (ansBadLength_acts _).channels (fun _ _ ht => ht ▸ rfl) s

end Owners

/-! ### Every command and every step -/

/-- The Link Port is none of the Scanner's. -/
theorem SerialMove.scans {s t : State} (h : SerialMove s t) : s.Scans t := by
  cases h with
  | link l => exact .of_channels rfl
  | error l e => exact .of_channels rfl
  | request k g ho => exact ho.scans { s with link := s.link.accept }
  | broadcast ho => exact ho.scans { s with link := { s.link.leave .hunt with good := count16 s.link.good } }

/-- Of the commands that are no requests only the conversions and device reset write a channel. -/
theorem exec_scans (c : Instr) (s t : State) (ht : exec c s = .next t) : s.Scans t := by
  cases hc : onLine c with
  | true => exact (exec_serial c s t hc ht).scans
  | false =>
    cases c
    case deviceReset => cases ht; exact fun c => State.reset_channel c ▸ ChannelMove.reset c
    case groupAConversion r => cases ht; exact s.groupAConverted_scans r
    case groupBPassCompletion raw first a => cases ht; exact s.passCompleted_scans raw first a
    case clampClosedTrue n => cases ht; exact .of_channels (s.clampClosed_channels n)
    case clampOpened n => cases ht; exact .of_channels (s.clampOpen_channels n)
    case clampTimeout n => cases ht; exact .of_channels (State.ite_channels (s.faultUnpierced_frame n _).channels)
    case scaleUnsettled n => cases ht; exact .of_channels (State.ite_channels (s.faultUnpierced_frame n _).channels)
    case tPierceExpiry n => cases ht; exact .of_channels (State.ite_channels (s.enterEvacuating_frame n true).channels)
    case probe n p => cases ht; exact .of_channels (State.ite_channels (s.takeProbe_channels n p))
    case tEvacExpiry n p => cases ht; exact .of_channels (s.evacExpired_channels n p)
    case tRiseExpiry n => cases ht; exact .of_channels (State.ite_channels (s.enterDraining_frame n).channels)
    case tDrainExpiry n => cases ht; exact .of_channels (State.ite_channels (s.enterWeighing_frame n).channels)
    case weighingSettleTimeout n => cases ht; exact .of_channels (s.settleExpired_frame n).channels
    case gateClosedFalse => cases ht; exact .of_channels s.gateOpened_channels
    case gateClosedTrue => cases ht; exact .of_channels s.gateShut_channels
    case tOpenExpiry => cases ht; exact .of_channels s.openExpired_channels
    case tPassExpiry => cases ht; exact .of_channels (State.ite_channels (s.enterJam_frame _).channels)
    case tCloseExpiry => cases ht; exact .of_channels (State.ite_channels (s.enterJam_frame _).channels)
    case feedCapture => cases ht; exact .of_channels s.beamCleared_channels
    case shredderRunningChange b => cases ht; exact .of_channels (s.shredderRuns_channels b)
    case emergencyStopAsserted => cases ht; exact .of_channels s.emergencyOn_channels
    case emergencyStopReleased => cases ht; exact .of_channels rfl
    case flowEdge => cases ht; exact .of_channels rfl
    case atmospherePeriodExpiry => cases ht; exact .of_channels (State.ite_channels rfl)
    case attributionTick => cases ht; exact .of_channels s.tickStep_reader.channels
    case pwmPeriodEnd => cases ht; exact .of_channels (State.ite_channels rfl)
    case purgeOnTimeEnd => cases ht; exact .of_channels (State.ite_channels rfl)
    all_goals cases hc

theorem step_scans (s t : State) (ht : step s = .next t) : s.Scans t := by
  unfold step at ht
  split at ht
  · cases ht
    exact .of_channels s.idle_channels
  case h_2 rest _ => exact exec_scans _ { s with pending := rest } t ht

/-- Settles O6: a step moves each channel by one of four moves at most, and each move keeps the law of the channel. -/
theorem channelLawKept : Obligations.ChannelLawKept := fun s t hs ht => (step_scans s t ht).channelLaw hs

end Sys2Proof.Machine
end

section
/-! The Signal Scanner's requests and its condition: SET CHANNEL (`Obligations.SetChannel`) and CHANNEL_FAULT
(`Obligations.ChannelFault`). -/

namespace Sys2Proof.Machine

/-! ### SET CHANNEL (R121, R132) -/

section SetChannel

variable {s : State} {tag channel : Byte} {zero span low high band : Word}

/-- A channel that does not exist is refused. -/
theorem exec_setChannel_refused (hrx : s.link.rx ≠ .replying) (h : 15 < channel.toNat) :
    exec (.setChannel tag channel zero span low high band) s = .next (s.replied 22 tag (bare .badField)) :=
  next_request hrx (by rw [ansSetChannel, channelOf_none h])

/-- The setup taken is answered, and CLAMPED says where it is not the one sent. -/
theorem exec_setChannel_taken {c : ChannelNo} {u : ChannelSetup} (hrx : s.link.rx ≠ .replying) (hc : channel.toNat = c.val)
    (hu : takenSetup zero.toInt span.toInt low.toInt high.toInt band.toNat = u) :
    exec (.setChannel tag channel zero span low high band) s
      = .next (State.replied (s.modChannel c fun x => x.configure u) 22 tag
        ⟨.done, decide (u.zero ≠ zero.toInt ∨ u.span ≠ span.toInt ∨ u.low ≠ low.toInt ∨ u.high ≠ high.toInt
          ∨ u.band ≠ band.toNat), int4 u.zero ++ int4 u.span ++ int4 u.low ++ int4 u.high ++ num4 u.band⟩) := by
  subst hu
  refine next_request hrx ?_
  rw [ansSetChannel, channelOf_eq hc]
  rfl

end SetChannel

/-- Settles O60: the two requests, with the ranges of the setup written as bounds. -/
theorem setChannel : Obligations.SetChannel := by
  intro s tag channel zero span low high band hrx
  refine ⟨exec_setChannel_refused hrx, fun c lim z p l h b hc hlim hz hp hl hh hb => ?_⟩
  have hfield (x : Int) : clampField x = lim x := by rw [hlim, clampField, clampInt_eq _ _ _ (by decide)]
  have hu : takenSetup zero.toInt span.toInt low.toInt high.toInt band.toNat = ⟨z, p, l, h, b⟩ := by
    rw [takenSetup, hfield, hfield, hfield, hfield, ← hz, ← hp, ← hl, ← hh, hb, Nat.min_comm]
  have hvalue : clampInt l h (s.channel c).value = max l (min h (s.channel c).value) :=
    clampInt_eq _ _ _ (hh ▸ le_max_left _ _)
  rw [exec_setChannel_taken hrx hc hu, ← hvalue]
  rfl

/-! ### CHANNEL_FAULT (R131) -/

section ChannelFault

variable {s : State} {c : ChannelNo}

theorem State.counted_iff (s : State) (c : ChannelNo) : s.counted c = true ↔ c.val < 2 * s.fittedCount ∧ c.val < 8
    ∨ 8 ≤ c.val ∧ c.val ≤ 11 ∨ 12 ≤ c.val ∧ c.val < 12 + s.fittedCount := by
  unfold State.counted
  split
  · rw [decide_eq_true_eq]; omega
  split
  · simp only [true_iff]; omega
  · rw [decide_eq_true_eq]; omega

theorem State.firstFault_none (h : ∀ c, s.counted c = true → (s.channel c).faulted = false) : s.firstFault = none := by
  refine List.find?_eq_none.mpr fun c _ hc => ?_
  obtain ⟨hcount, hfault⟩ := Bool.and_eq_true_iff.mp hc
  rw [h c hcount] at hfault
  cases hfault

/-- The counted channel in fault before which none is, is the first. -/
theorem State.firstFault_some (hc : s.counted c = true) (hf : (s.channel c).faulted = true)
    (h : ∀ d, d < c → s.counted d = true → (s.channel d).faulted = false) : s.firstFault = some c := by
  refine (List.find?_eq_some_iff_getElem ..).mpr ⟨Bool.and_eq_true_iff.mpr ⟨hc, hf⟩, c.val, by simp, by simp, fun j hj => ?_⟩
  have hlt : (⟨j, hj.trans c.isLt⟩ : ChannelNo) < c := hj
  cases hcount : s.counted ⟨j, hj.trans c.isLt⟩ with
  | false => simp [hcount]
  | true => simp [h _ hlt hcount]

theorem State.judgeChannels_healthy (h : s.firstFault = none) :
    s.judgeChannels = { s with arb := s.arb.report s.clock srcChannelFault false none none } := by
  rw [State.judgeChannels, h]
  rfl

theorem State.judgeChannels_faulted (h : s.firstFault = some c) : s.judgeChannels = { s with
    arb := s.arb.report s.clock srcChannelFault true (some c.val) (some (.side (s.channel c).side)) } := by
  rw [State.judgeChannels, h]
  rfl

theorem Channel.side_eq (x : Channel) : x.side = if x.status = .faultHigh then .high else .low :=
  if_congr beq_iff_eq rfl rfl

end ChannelFault

/-- Settles O48: the first counted channel in fault, where there is one. -/
theorem channelFault : Obligations.ChannelFault := by
  intro s fitted counted faulted hfit hcounted hfaulted
  have hcount (c : ChannelNo) : s.counted c = true ↔ counted c := by rw [s.counted_iff, hcounted, hfit]; rfl
  have hfault (c : ChannelNo) : (s.channel c).faulted = true ↔ faulted c := by rw [Channel.faulted_iff, hfaulted]
  have hhealthy {c : ChannelNo} (h : counted c → ¬faulted c) (hc : s.counted c = true) : (s.channel c).faulted = false :=
    Bool.eq_false_iff.mpr fun hf => h ((hcount c).mp hc) ((hfault c).mp hf)
  refine ⟨fun h => State.judgeChannels_healthy (State.firstFault_none fun c => hhealthy (h c)), fun c hc hf hlow => ?_⟩
  have hfirst := State.firstFault_some ((hcount c).mpr hc) ((hfault c).mpr hf) fun d hd => hhealthy (hlow d hd)
  rw [State.judgeChannels_faulted hfirst, Channel.side_eq]

end Sys2Proof.Machine
end

section
/-! The events of the Timing Unit (`Obligations.TimingEvents`). -/

namespace Sys2Proof.Machine

/-! ### The events (R124, R139, R141, R147, R150) -/

section Events

variable {s : State}

theorem Flow.edge_counts {f : Flow} {divider : Nat} (h : f.edges + 1 ≠ divider) (now : Time) :
    f.edge divider now = { f with edges := f.edges + 1 } := if_neg h

theorem Flow.edge_captures {f : Flow} {divider : Nat} (h : f.edges + 1 = divider) (now : Time) :
    f.edge divider now = f.capture now := if_pos h

/-- Of the captures never read at most 65,535 are counted (R147). -/
theorem Flow.capture_eq (f : Flow) (now : Time) : f.capture now = {
    edges := 0, latest := some now, previous := f.latest, unused := true
    overwrites := if f.unused = true ∧ f.overwrites < 65535 then f.overwrites + 1
      else if f.unused = true then 65535 else f.overwrites } := by
  unfold Flow.capture satAdd Config.max16
  cases f.unused with
  | false => simp
  | true => simp

theorem State.periodExpired_due (h : s.clock = s.period.nextDeadline) : s.periodExpired = s.periodExpire := if_pos h

theorem State.pwmPeriodEnded_due (h : elapsed s.pwm.start s.clock = s.pwm.length) :
    s.pwmPeriodEnded = { s with pwm := s.pwm.restart s.clock (s.item iTPwm) } := if_pos h

theorem State.onTimeEnded_due (hp : s.pwm.purge = true) (he : elapsed s.pwm.start s.clock = s.pwm.onTime)
    (hl : s.pwm.onTime < s.pwm.length) : s.onTimeEnded = { s with pwm := { s.pwm with purge := false } } := if_pos ⟨hp, he, hl⟩

end Events

/-- Settles O54, event by event. -/
theorem timingEvents : Obligations.TimingEvents := by
  intro s
  refine ⟨fun h => ?_, fun h => ?_, fun h => ?_, fun h => congrArg _ (State.pwmPeriodEnded_due h),
    fun hp he hl => congrArg _ (State.onTimeEnded_due hp he hl)⟩
  · show Host.Outcome.next s.flowEdge = _
    rw [State.flowEdge, Flow.edge_counts h]
  · show Host.Outcome.next s.flowEdge = _
    rw [State.flowEdge, Flow.edge_captures h, Flow.capture_eq]
  · show Host.Outcome.next s.periodExpired = _
    rw [State.periodExpired_due h, State.periodExpire]
    simp only [decide_eq_true_eq, after]

end Sys2Proof.Machine
end

section
/-! The millisecond that an empty queue lets pass (`Obligations.IdleLetsTimePass`): the events due at the new reading, piece by
piece, and that each of them waits once. -/

namespace Sys2Proof.Machine

/-! ### The order of arrival (log 2) -/

theorem arrange_perm (free : Nat) (l : List Instr) : (arrange free l).Perm l := by
  induction l generalizing free with
  | nil => rfl
  | cons e l ih =>
    cases l with
    | nil => rfl
    | cons d l =>
      have hplace : Config.arrivalPlace free % ((d :: l).length + 1) ≤ (arrange (free + 1) (d :: l)).length := by
        rw [(ih (free + 1)).length_eq]
        exact Nat.le_of_lt_succ (Nat.mod_lt _ (Nat.succ_pos _))
      exact (List.perm_insertIdx e _ hplace).trans ((ih (free + 1)).cons e)

/-! ### What is due, piece by piece (R122, R124, R139, R143, R144, R150) -/

section Due

variable {s : State} {n : StationNo} {e : Instr}

theorem State.due_iff (s : State) (d : Option Time) : s.due d = true ↔ d = some s.clock := beq_iff_eq

theorem mem_event {c : Prop} [Decidable c] {d : Instr} : e ∈ (if c then [d] else []) ↔ c ∧ e = d := by
  rw [List.mem_ite_nil_right, List.mem_singleton]

theorem stationExpiry_iff (n : StationNo) (pair : BitVec 2) (st : StationState) : stationExpiry n pair st = some e ↔
    st = .clamping ∧ e = .clampTimeout n ∨ st = .taring ∧ e = .scaleUnsettled n ∨ st = .piercing ∧ e = .tPierceExpiry n
      ∨ st = .evacuating ∧ e = .tEvacExpiry n pair ∨ st = .riseTest ∧ e = .tRiseExpiry n
      ∨ st = .drainingOil ∧ e = .tDrainExpiry n
      ∨ (st = .weighing ∨ st = .abortWeighing) ∧ e = .weighingSettleTimeout n := by
  cases st <;> simp [stationExpiry, eq_comm]

theorem feederExpiry_iff (st : FeederState) : feederExpiry st = some e ↔
    st = .opening ∧ e = .tOpenExpiry ∨ st = .passing ∧ e = .tPassExpiry ∨ st = .closing ∧ e = .tCloseExpiry := by
  cases st <;> simp [feederExpiry, eq_comm]

theorem State.mem_stationDue (s : State) (n : StationNo) (e : Instr) : e ∈ s.stationDue n ↔
    ((s.station n).deadline = some s.clock ∧ stationExpiry n s.pins.analyser[n] (s.station n).state = some e)
      ∨ ((s.station n).probeDeadline = some s.clock ∧ e = .probe n s.pins.analyser[n]) := by
  rw [State.stationDue, List.mem_append, List.mem_ite_nil_right, Option.mem_toList, mem_event, s.due_iff, s.due_iff]

/-- The eight readings of a complete pass are those it holds. -/
theorem Pass.held_eq_iff (p : Pass) (raw : Vector Raw 8) : p.held = raw.toList ↔ p.held.length = 8 ∧ raw = p.raw := by
  refine ⟨fun h => ⟨by rw [h, Vector.length_toList], Vector.ext fun k hk => ?_⟩, fun ⟨hl, hr⟩ => ?_⟩
  · simp [Pass.raw, h]
  · subst hr
    refine List.ext_getElem (by rw [Vector.length_toList, hl]) fun k hk _ => ?_
    simp [Pass.raw, hk]

theorem State.convertedA_eq_iff (s : State) (c : Fin 8) : c = s.convertedA ↔
    (s.scan.next.val < 2 * s.fittedCount → c = s.scan.next) ∧ (2 * s.fittedCount ≤ s.scan.next.val → c = 0) := by
  unfold State.convertedA
  split
  case isTrue h => exact ⟨fun hc => ⟨fun _ => hc, fun hn => absurd h (Nat.not_lt.mpr hn)⟩, fun hc => hc.1 h⟩
  case isFalse h => exact ⟨fun hc => ⟨fun hn => absurd hn h, fun _ => hc⟩, fun hc => hc.2 (Nat.not_lt.mp h)⟩

theorem State.mem_scanDue (s : State) (e : Instr) : e ∈ s.scanDue ↔
    (s.scan.due = s.clock ∧ ∃ c : Fin 8, (s.scan.next.val < 2 * s.fittedCount → c = s.scan.next)
      ∧ (2 * s.fittedCount ≤ s.scan.next.val → c = 0) ∧ e = .groupAConversion s.pins.analog[c])
    ∨ ∃ p raw, s.scan.pass = some p ∧ p.held = Vector.toList raw
      ∧ e = .groupBPassCompletion raw (Config.passOrder s.free) (Config.tickApart s.free) := by
  rw [State.scanDue, List.mem_append, mem_event]
  refine or_congr (and_congr eq_comm ?_) ?_
  · simp only [← and_assoc, ← s.convertedA_eq_iff, exists_eq_left]
    rfl
  · cases s.scan.pass with
    | none => simp
    | some p =>
      simp only [mem_event, Option.some.injEq, Pass.held_eq_iff, and_assoc]
      constructor
      · rintro ⟨hl, he⟩
        exact ⟨p, p.raw, rfl, hl, rfl, he⟩
      · rintro ⟨_, _, rfl, hl, rfl, he⟩
        exact ⟨hl, he⟩

theorem State.mem_dueEvents (s : State) (e : Instr) : e ∈ s.dueEvents ↔ (∃ n, e ∈ s.stationDue n)
    ∨ (s.feeder.deadline = some s.clock ∧ feederExpiry s.feeder.state = some e) ∨ e ∈ s.scanDue
    ∨ (s.period.nextDeadline = s.clock ∧ e = .atmospherePeriodExpiry)
    ∨ (elapsed s.pwm.start s.clock = s.pwm.length ∧ e = .pwmPeriodEnd)
    ∨ (s.pwm.purge = true ∧ elapsed s.pwm.start s.clock = s.pwm.onTime ∧ s.pwm.onTime < s.pwm.length ∧ e = .purgeOnTimeEnd) := by
  simp only [State.dueEvents, List.mem_append, List.mem_flatMap, List.mem_finRange, true_and, List.mem_ite_nil_right,
    List.mem_singleton, Option.mem_toList, s.due_iff, or_assoc, and_assoc, eq_comm (a := s.clock)]

/-! ### Each event waits once -/

/-- The place of an event among those that can be due at one reading. -/
def duePlace : Instr → Nat
  | .clampTimeout n => 2 * n.val
  | .scaleUnsettled n => 2 * n.val
  | .tPierceExpiry n => 2 * n.val
  | .tEvacExpiry n _ => 2 * n.val
  | .tRiseExpiry n => 2 * n.val
  | .tDrainExpiry n => 2 * n.val
  | .weighingSettleTimeout n => 2 * n.val
  | .probe n _ => 2 * n.val + 1
  | .tOpenExpiry => 8
  | .tPassExpiry => 8
  | .tCloseExpiry => 8
  | .groupAConversion _ => 9
  | .groupBPassCompletion _ _ _ => 10
  | .atmospherePeriodExpiry => 11
  | .pwmPeriodEnd => 12
  | .purgeOnTimeEnd => 13
  | _ => 14

/-- Events in ascending order of their places, all below a bound: no place is taken twice. -/
def Placed (b : Nat) (l : List Instr) : Prop := l.Pairwise (fun d e => duePlace d < duePlace e) ∧ ∀ e ∈ l, duePlace e < b

theorem Placed.nodup {b : Nat} {l : List Instr} (h : Placed b l) : l.Nodup :=
  h.1.imp fun hlt he => Nat.ne_of_lt hlt (congrArg duePlace he)

/-- Behind them an event of the next place, where there is one and it is due. -/
theorem Placed.append {b : Nat} {l : List Instr} {o : Option Instr} {c : Prop} [Decidable c] (h : Placed b l)
    (ho : ∀ e, o = some e → duePlace e = b) : Placed (b + 1) (l ++ if c then o.toList else []) := by
  obtain ⟨hl, hb⟩ := h
  have hm (e : Instr) (he : e ∈ if c then o.toList else []) : duePlace e = b :=
    ho e (Option.mem_toList.mp (List.mem_ite_nil_right.mp he).2)
  refine ⟨List.pairwise_append.mpr ⟨hl, ?_, fun d hd e he => hm e he ▸ hb d hd⟩, fun e he => ?_⟩
  · cases o with
    | none => simp
    | some d => split <;> simp
  · rcases List.mem_append.mp he with he | he
    · exact Nat.lt_succ_of_lt (hb e he)
    · exact Nat.lt_succ_of_le (hm e he).le

theorem Placed.event {b : Nat} {l : List Instr} {d : Instr} {c : Prop} [Decidable c] (h : Placed b l) (hd : duePlace d = b) :
    Placed (b + 1) (l ++ if c then [d] else []) := h.append (o := some d) fun _ he => Option.some.inj he ▸ hd

theorem stationExpiry_place {pair : BitVec 2} {st : StationState} (h : stationExpiry n pair st = some e) :
    duePlace e = 2 * n.val := by
  cases st <;> cases h <;> rfl

theorem State.stationDue_place (h : e ∈ s.stationDue n) : duePlace e = 2 * n.val ∨ duePlace e = 2 * n.val + 1 := by
  rcases (s.mem_stationDue n e).mp h with ⟨-, he⟩ | ⟨-, rfl⟩
  · exact .inl (stationExpiry_place he)
  · exact .inr rfl

theorem State.stationDue_placed (s : State) (n : StationNo) : Placed (2 * n.val + 2) (s.stationDue n) := by
  have hnone : Placed (2 * n.val) [] := ⟨.nil, nofun⟩
  exact (hnone.append fun _ => stationExpiry_place).event rfl

theorem State.stationsDue_placed (s : State) : Placed 8 ((List.finRange 4).flatMap s.stationDue) := by
  refine ⟨List.pairwise_flatMap.mpr ⟨fun n _ => (s.stationDue_placed n).1, ?_⟩, fun e he => ?_⟩
  · refine (List.pairwise_lt_finRange 4).imp fun hlt d hd e he => ?_
    have hd := State.stationDue_place hd
    have he := State.stationDue_place he
    omega
  · obtain ⟨n, -, he⟩ := List.mem_flatMap.mp he
    have he := State.stationDue_place he
    omega

theorem feederExpiry_place {st : FeederState} (h : feederExpiry st = some e) : duePlace e = 8 := by
  cases st <;> cases h <;> rfl

theorem State.scanDue_placed {l : List Instr} (h : Placed 9 l) (s : State) : Placed 11 (l ++ s.scanDue) := by
  rw [State.scanDue, ← List.append_assoc]
  cases s.scan.pass with
  | none => exact (h.event rfl).append (o := none) (c := True) nofun
  | some p => exact (h.event rfl).event rfl

theorem State.dueEvents_nodup (s : State) : s.dueEvents.Nodup := by
  have hfeeder := s.stationsDue_placed.append (o := feederExpiry s.feeder.state) (c := s.due s.feeder.deadline = true)
    fun _ => feederExpiry_place
  exact ((((State.scanDue_placed hfeeder s).event rfl).event rfl).event rfl).nodup

end Due

/-! ### The millisecond (R124, R137, log 1) -/

theorem Pass.sample_eq (p : Pass) (now : Time) (analog : Vector Raw 16) : p.sample now analog = { p with
    held := if h : p.held.length < 8 then
        if (now - p.started).toNat = 2 * (p.held.length + 1) then p.held ++ [analog[8 + p.held.length]] else p.held
      else p.held } := by
  unfold Pass.sample elapsed
  split
  · split <;> rfl
  · rfl

/-- The state at the next reading of the line clock, the pass in progress sampled. -/
def State.nextReading (s : State) : State :=
  { s with
    clock := s.clock + 1
    scan := { s.scan with pass := s.scan.pass.map fun p => p.sample (s.clock + 1) s.pins.analog } }

theorem State.millisecond_eq (s : State) : s.millisecond = { s.nextReading with
    free := s.free + s.nextReading.dueEvents.length + 1, pending := arrange s.free s.nextReading.dueEvents } := rfl

theorem step_idle {s : State} (h : s.pending = []) : step s = .next s.idle := by rw [step, h]

/-- Settles O2: the due events piece by piece, each at a place of its own, in an order that nothing fixes. -/
theorem idleLetsTimePass : Obligations.IdleLetsTimePass := by
  intro s hs
  rw [step_idle hs]
  refine ⟨fun x hx => by rw [State.idle, hx]; rfl, fun hx => ⟨s.millisecond, by rw [State.idle, hx]; rfl, ?_⟩⟩
  have hperm := arrange_perm s.free s.nextReading.dueEvents
  rw [s.millisecond_eq]
  refine ⟨?_, ?_, hperm.nodup_iff.mpr s.nextReading.dueEvents_nodup, fun e => hperm.mem_iff.trans ?_⟩
  · simp only [hperm.length_eq]
    rfl
  · exact congrArg (fun f => s.scan.pass.map f) (funext fun p => p.sample_eq (s.clock + 1) s.pins.analog)
  · rw [State.mem_dueEvents]
    simp only [State.mem_stationDue, State.mem_scanDue, stationExpiry_iff, feederExpiry_iff, exists_or, or_assoc]
    rfl

end Sys2Proof.Machine
end

section
/-! Every command completes, and only the passing of a millisecond and device reset move the line clock or the queue of waiting
commands (`Obligations.EveryCommandGivesANextState`). The clock, the queue and the counter of the free values are one triple,
which each block is shown to leave, from what its frame says it can change. -/

namespace Sys2Proof.Machine

/-- What no command but device reset touches: the line clock, the waiting commands, the counter of the free values (R137, logs 1,
10, 21). -/
def State.timeline (s : State) : Time × List Instr × Nat := (s.clock, s.pending, s.free)

theorem State.timeline_eq_iff (s t : State) :
    t.timeline = s.timeline ↔ t.clock = s.clock ∧ t.pending = s.pending ∧ t.free = s.free := by
  simp only [State.timeline, Prod.mk.injEq]

/-! ### The frames that leave the timeline -/

section Blocks

variable {s t : State}

theorem GateFrame.timeline (h : GateFrame s t) : t.timeline = s.timeline := by rw [h]; rfl

theorem HaltFrame.timeline (h : HaltFrame s t) : t.timeline = s.timeline := by rw [h]; rfl

theorem CloseFrame.timeline (h : CloseFrame s t) : t.timeline = s.timeline := by rw [h]; rfl

theorem StationFrame.timeline (h : StationFrame s t) : t.timeline = s.timeline := by rw [h]; rfl

theorem ReaderFrame.timeline (h : ReaderFrame s t) : t.timeline = s.timeline := by rw [h]; rfl

theorem ScanFrame.timeline (h : ScanFrame s t) : t.timeline = s.timeline := by rw [h]; rfl

theorem PassRead.timeline (h : PassRead s t) : t.timeline = s.timeline := by rw [h.frame]; rfl

/-- A case that changes nothing where its condition fails. -/
theorem State.ite_timeline {c : Prop} [Decidable c] (h : t.timeline = s.timeline) :
    (if c then t else s).timeline = s.timeline := by
  split
  · exact h
  · rfl

/-! ### The gate and the stations (R25 to R48, R70 to R79) -/

theorem State.gateOpened_timeline (s : State) : s.gateOpened.timeline = s.timeline := by
  unfold State.gateOpened
  simp only
  split
  · rfl
  · exact State.ite_timeline rfl

theorem State.gateShut_timeline (s : State) : s.gateShut.timeline = s.timeline := by
  unfold State.gateShut
  simp only
  split
  · rfl
  · exact State.ite_timeline (State.feederToIdle_frame _).timeline

theorem State.openExpired_timeline (s : State) : s.openExpired.timeline = s.timeline :=
  State.ite_timeline (s.returnToHead_frame.halt.trans (State.enterJam_frame _ _)).timeline

theorem State.beamCleared_timeline (s : State) : s.beamCleared.timeline = s.timeline :=
  State.ite_timeline (s := { s with pins := { s.pins with beam := false } })
    ((State.feedEvent_frame _ _ _).trans (State.enterClosing_frame _)).timeline

theorem State.shredderRuns_timeline (s : State) (b : Bool) : (s.shredderRuns b).timeline = s.timeline := by
  unfold State.shredderRuns
  split
  · rfl
  · exact (State.judgePermit_frame _).timeline

theorem State.clampClosed_timeline (s : State) (n : StationNo) : (s.clampClosed n).timeline = s.timeline := by
  unfold State.clampClosed
  simp only
  split
  · rfl
  · exact State.ite_timeline (State.enterTaring_frame _ n).timeline

theorem State.clampOpen_timeline (s : State) (n : StationNo) : (s.clampOpen n).timeline = s.timeline := by
  unfold State.clampOpen
  simp only
  split
  · rfl
  split
  case h_6 => exact (State.enterAwait_frame _ n).timeline
  case h_7 => rfl
  all_goals exact (State.abort_frame _ n .clampOpened).timeline

theorem State.takeProbe_timeline (s : State) (n : StationNo) (p : BitVec 2) :
    ((s.analyserSeen n p).takeProbe n p).timeline = s.timeline := (State.takeProbe_frame _ n p).timeline

theorem State.evacExpired_timeline (s : State) (n : StationNo) (p : BitVec 2) : (s.evacExpired n p).timeline = s.timeline := by
  refine State.ite_timeline ?_
  split
  · exact (s.evacTimedOut_frame n).timeline
  · exact (State.evacTimedOut_frame _ n).timeline.trans (s.takeProbe_timeline n p)

/-! ### The line and the configuration (R140, R142, R166 to R172, R189) -/

theorem State.setLine_timeline (s : State) (l : LineState) : (s.setLine l).timeline = s.timeline :=
  (State.judgePermit_frame _).timeline

theorem State.stopLine_timeline (s : State) : s.stopLine.timeline = s.timeline := by
  unfold State.stopLine
  split
  · rfl
  · have hstops : s.stationsStopped.timeline = s.timeline :=
      (State.stationStops_frame _ { s with line := { s.line with state := .stop } }).timeline
    exact s.enterStop_haltFrame.timeline.trans hstops

theorem State.emergencyOn_timeline (s : State) : s.emergencyOn.timeline = s.timeline := by
  unfold State.emergencyOn
  simp only
  split
  · rfl
  · exact State.stopLine_timeline _

theorem State.newPeriod_timeline (s : State) : s.newPeriod.timeline = s.timeline := by
  unfold State.newPeriod
  split
  · rfl
  · split <;> rfl

theorem State.itemEffect_timeline (s : State) (i : Item) : (s.itemEffect i).timeline = s.timeline := by
  unfold State.itemEffect
  split
  · exact s.newPeriod_timeline
  split
  · rfl
  split
  · rfl
  · exact State.ite_timeline s.feederPass_frame.timeline

theorem State.withdrawSlot_timeline (s : State) (i : Slot) : (s.withdrawSlot i).timeline = s.timeline := by
  have hclose : ((s.modRecord i fun r => { r with foamVerdict := some .notShredded }).closeSlot i).timeline = s.timeline :=
    (State.closeSlot_frame _ i).timeline
  unfold State.withdrawSlot
  simp only
  split
  · exact (State.judgePermit_frame _).timeline.trans hclose
  · exact hclose

theorem State.feedCleared_timeline (s : State) :
    (if s.table.feeding.isSome then s.feedEvent s.clock true else s).freeJam.timeline = s.timeline :=
  (State.freeJam_frame _).timeline.trans (State.ite_timeline (s.feedEvent_frame _ _).timeline)

/-! ### Conversions (R122 to R125) -/

theorem State.groupAConverted_timeline (s : State) (r : Raw) : (s.groupAConverted r).timeline = s.timeline :=
  (State.stationConverted_frame _ _).timeline

theorem State.readPass_timeline (s : State) (m a : Bool) (x : PassReader) : (s.readPass m a x).timeline = s.timeline := by
  by_cases hx : x = .atmosphere
  · subst hx
    exact s.atmospherePass_read.timeline
  · exact (State.readPass_reader hx s m a).timeline

theorem State.passCompleted_timeline (s : State) (raw : Vector Raw 8) (first : List PassReader) (a : Bool) :
    (s.passCompleted raw first a).timeline = s.timeline := by
  unfold State.passCompleted
  split
  · rfl
  case h_2 p _ =>
    have hreaders : ((readerOrder first).foldl (State.readPass p.marked a) (s.passConverted p raw)).timeline
        = (s.passConverted p raw).timeline :=
      foldl_frame (R := fun s t => t.timeline = s.timeline) (fun _ => rfl) (fun h k => k.trans h)
        (fun t x => t.readPass_timeline _ _ x) _ _
    exact hreaders.trans (s.passConverted_frame p raw).timeline

end Blocks

/-! ### The owners of the requests and the serial line (R179 to R187) -/

section Owners

variable {owner : State → State × Answer} {Q : State → State → Prop}

theorem Acts.timeline (h : Acts owner Q) (hQ : ∀ s t, Q s t → t.timeline = s.timeline) (s : State) :
    (owner s).1.timeline = s.timeline :=
  h.keeps (P := fun t => t.timeline = s.timeline) (fun t u ht hq => (hQ t u hq).trans ht) rfl

/-- No owner touches the timeline. -/
theorem IsOwner.timeline (h : IsOwner owner) (s : State) : (owner s).1.timeline = s.timeline := by
  cases h with
  | admission => exact (ansAdmit_acts _ _ _ _ _).timeline (fun _ _ ⟨_, _, _, _, _, _, _, ht⟩ => ht ▸ rfl) s
  | query => exact (ansQuery_acts _ _).timeline (fun _ _ ht => ht ▸ rfl) s
  | listTable => exact ansListTable_acts.timeline (fun _ _ ht => ht ▸ rfl) s
  | withdraw => exact (ansWithdraw_acts _).timeline (fun s _ ⟨i, _, _, _, ht⟩ => ht ▸ s.withdrawSlot_timeline i) s
  | release => exact (ansRelease_acts _).timeline (fun _ _ ⟨_, _, _, _, ht⟩ => ht ▸ (State.judgeIdle_frame _).timeline) s
  | takeClosed => exact (ansTakeClosed_acts _).timeline (fun _ _ ht => ht.elim (· ▸ rfl) (· ▸ rfl)) s
  | beginAttempt =>
    exact (ansBegin_acts _ _).timeline (fun s _ ⟨n, i, _, _, _, _, _, _, ht⟩ => ht ▸ (s.beginAttempt_frame n i).timeline) s
  | abort => exact (ansAbort_acts _).timeline (fun s _ ⟨n, _, _, ht⟩ => ht ▸ (s.abort_frame n _).timeline) s
  | waive => exact (ansWaive_acts _).timeline (fun _ _ ⟨_, _, _, _, ht⟩ => ht ▸ rfl) s
  | clearStation => exact (ansClearStation_acts _).timeline (fun _ _ ⟨_, _, _, ht⟩ => ht ▸ rfl) s
  | receiverChanged => exact (ansReceiverChanged_acts _).timeline (fun _ _ ⟨_, _, _, ht⟩ => ht ▸ rfl) s
  | readStation => exact (ansReadStation_acts _).timeline (fun _ _ ⟨_, _, ht⟩ => ht ▸ rfl) s
  | feedClear => exact ansFeedClear_acts.timeline (fun s _ ⟨_, ht⟩ => ht ▸ s.feedCleared_timeline) s
  | feedReturn =>
    exact ansFeedReturn_acts.timeline
      (fun s _ ⟨_, ht⟩ => ht ▸ (s.returnToHead_frame.trans (State.freeJam_frame _)).timeline) s
  | holdOn => exact ansHoldOn_acts.timeline (fun _ _ ht => ht ▸ rfl) s
  | holdOff => exact ansHoldOff_acts.timeline (fun _ _ ht => ht ▸ rfl) s
  | tripReset => exact ansTripReset_acts.timeline (fun _ _ ⟨_, ht⟩ => ht ▸ (State.judgePermit_frame _).timeline) s
  | drainBegin => exact ansDrainBegin_acts.timeline (fun _ _ ⟨_, ht⟩ => ht ▸ rfl) s
  | drainEnd => exact ansDrainEnd_acts.timeline (fun _ _ ⟨_, ht⟩ => ht ▸ rfl) s
  | setConfig => exact (ansSetConfig_acts _ _).timeline (fun _ _ ⟨i, _, ht⟩ => ht ▸ State.itemEffect_timeline _ i) s
  | readConfig => exact ansReadConfig_acts.timeline (fun _ _ ht => ht ▸ rfl) s
  | setChannel => exact (ansSetChannel_acts _ _ _ _ _ _).timeline (fun _ _ ⟨_, _, ht⟩ => ht ▸ rfl) s
  | readChannel => exact (ansReadChannel_acts _).timeline (fun _ _ ht => ht ▸ rfl) s
  | setSource => exact (ansSetSource_acts _ _).timeline (fun _ _ ⟨_, ht⟩ => ht ▸ rfl) s
  | setMask => exact (ansSetMask_acts _ _).timeline (fun _ _ ⟨_, ht⟩ => ht ▸ rfl) s
  | takeNotices => exact (ansTakeNotices_acts _).timeline (fun _ _ ⟨_, ht⟩ => ht ▸ rfl) s
  | readStatus => exact ansReadStatus_acts.timeline (fun _ _ ht => ht ▸ rfl) s
  | readTotals => exact ansReadTotals_acts.timeline (fun _ _ ht => ht ▸ rfl) s
  | clearTotals => exact ansClearTotals_acts.timeline (fun _ _ ht => ht ▸ rfl) s
  | lineRun => exact ansLineRun_acts.timeline (fun s _ ht => ht ▸ s.setLine_timeline _) s
  | lineHold => exact ansLineHold_acts.timeline (fun s _ ht => ht ▸ s.setLine_timeline _) s
  | lineStop => exact ansLineStop_acts.timeline (fun s _ ht => ht ▸ s.stopLine_timeline) s
  | lineResume => exact ansLineResume_acts.timeline (fun s _ ht => ht ▸ s.setLine_timeline _) s
  | clearLine => exact ansClearLine_acts.timeline (fun _ _ ⟨_, ht⟩ => ht ▸ rfl) s
  | badKind => exact badKind_acts.timeline (fun _ _ ht => ht ▸ rfl) s
  | badLength => exact (ansBadLength_acts _).timeline (fun _ _ ht => ht ▸ rfl) s

end Owners

theorem SerialMove.timeline {s t : State} (h : SerialMove s t) : t.timeline = s.timeline := by
  cases h with
  | link l => rfl
  | error l e => rfl
  | request k g ho => exact ho.timeline { s with link := s.link.accept }
  | broadcast ho => exact ho.timeline { s with link := { s.link.leave .hunt with good := count16 s.link.good } }

/-! ### Every command -/

/-- Every command but device reset leaves the timeline: it moves the serial line, or is an event of one block. -/
theorem exec_timeline (c : Instr) (s t : State) (hreset : ∀ addr rate stations, c ≠ .deviceReset addr rate stations)
    (ht : exec c s = .next t) : t.timeline = s.timeline := by
  cases hc : onLine c with
  | true => exact (exec_serial c s t hc ht).timeline
  | false =>
    cases c
    case deviceReset a r x => exact absurd rfl (hreset a r x)
    case groupAConversion r => cases ht; exact s.groupAConverted_timeline r
    case groupBPassCompletion raw first a => cases ht; exact s.passCompleted_timeline raw first a
    case clampClosedTrue n => cases ht; exact s.clampClosed_timeline n
    case clampOpened n => cases ht; exact s.clampOpen_timeline n
    case clampTimeout n => cases ht; exact State.ite_timeline (s.faultUnpierced_frame n _).timeline
    case scaleUnsettled n => cases ht; exact State.ite_timeline (s.faultUnpierced_frame n _).timeline
    case tPierceExpiry n => cases ht; exact State.ite_timeline (s.enterEvacuating_frame n true).timeline
    case probe n p => cases ht; exact State.ite_timeline (s.takeProbe_timeline n p)
    case tEvacExpiry n p => cases ht; exact s.evacExpired_timeline n p
    case tRiseExpiry n => cases ht; exact State.ite_timeline (s.enterDraining_frame n).timeline
    case tDrainExpiry n => cases ht; exact State.ite_timeline (s.enterWeighing_frame n).timeline
    case weighingSettleTimeout n => cases ht; exact (s.settleExpired_frame n).timeline
    case gateClosedFalse => cases ht; exact s.gateOpened_timeline
    case gateClosedTrue => cases ht; exact s.gateShut_timeline
    case tOpenExpiry => cases ht; exact s.openExpired_timeline
    case tPassExpiry => cases ht; exact State.ite_timeline (s.enterJam_frame _).timeline
    case tCloseExpiry => cases ht; exact State.ite_timeline (s.enterJam_frame _).timeline
    case feedCapture => cases ht; exact s.beamCleared_timeline
    case shredderRunningChange b => cases ht; exact s.shredderRuns_timeline b
    case emergencyStopAsserted => cases ht; exact s.emergencyOn_timeline
    case emergencyStopReleased => cases ht; rfl
    case flowEdge => cases ht; rfl
    case atmospherePeriodExpiry => cases ht; exact State.ite_timeline rfl
    case attributionTick => cases ht; exact s.tickStep_reader.timeline
    case pwmPeriodEnd => cases ht; exact State.ite_timeline rfl
    case purgeOnTimeEnd => cases ht; exact State.ite_timeline rfl
    all_goals cases hc

/-- No command faults or is refused. -/
theorem exec_next (c : Instr) (s : State) : ∃ t : State, exec c s = .next t := by
  cases c <;> exact ⟨_, rfl⟩

/-- Device reset puts the reading of an asserted EMERGENCY STOP before what waits (logs 10, 25). -/
theorem State.deviceReset_pending (s : State) (a : BitVec 5) (r x : Bool) : (s.deviceReset a r x).pending
    = if s.pins.emergencyStop = true then .emergencyStopAsserted :: s.pending else s.pending := by
  show s.pins.firstReading ++ s.pending = _
  unfold Pins.firstReading
  split <;> rfl

/-! ### The empty queue (R137, logs 1, 4) -/

/-- A due tick holds the clock; otherwise a millisecond passes. -/
theorem State.idle_clock (s : State) : s.idle.clock = if s.foam.tickDue.isSome = true then s.clock else s.clock + 1 := by
  unfold State.idle
  split <;> rfl

/-- Settles O3: no command but device reset touches the timeline, and the empty queue is the passing of time. -/
theorem everyCommandGivesANextState : Obligations.EveryCommandGivesANextState := by
  refine ⟨fun c s => ?_, fun s hs => ⟨s.idle, step_idle hs, s.idle_clock⟩⟩
  by_cases hc : ∃ addr rate stations, c = .deviceReset addr rate stations
  · obtain ⟨addr, rate, stations, rfl⟩ := hc
    exact ⟨s.deviceReset addr rate stations, rfl, rfl, fun h => absurd rfl (h addr rate stations),
      fun _ _ _ _ => ⟨rfl, s.deviceReset_pending addr rate stations⟩⟩
  · have hreset : ∀ addr rate stations, c ≠ .deviceReset addr rate stations := fun a r x h => hc ⟨a, r, x, h⟩
    obtain ⟨t, ht⟩ := exec_next c s
    obtain ⟨hclock, hpending, hfree⟩ := (s.timeline_eq_iff t).mp (exec_timeline c s t hreset ht)
    exact ⟨t, ht, hfree, fun _ => ⟨hpending, hclock⟩, fun a r x h => absurd h (hreset a r x)⟩

end Sys2Proof.Machine
end

section
/-! Posting (`Obligations.PostingTakesTheHighest`): which source is eligible, which of them is taken, and that the postings of one
step leave none eligible. -/

namespace Sys2Proof.Machine

namespace Arbiter

section Posting

variable {a : Arbiter} {i : SourceNo} {l : Fin 4} {p : Pending} {k : Nat}

/-! ### Eligible sources (R158, R159) -/

/-- A notice of a level is not masked and has room (R157, R158). -/
def Fits (a : Arbiter) (l : Fin 4) : Prop :=
  a.mask ≤ l ∧ a.queue.length < 32 ∧ (l = 3 ∨ (a.queue.filter fun n => decide (n.level.val ≤ 2)).length < 28)

theorem not_fits_iff : ¬a.Fits l ↔ l < a.mask ∨ 32 ≤ a.queue.length
    ∨ l ≠ 3 ∧ 28 ≤ (a.queue.filter fun n => decide (n.level.val ≤ 2)).length := by
  simp only [Fits, not_and_or, not_or, not_le, not_lt]

theorem room_iff : a.room l = true ↔ a.queue.length < 32
    ∧ (l = 3 ∨ (a.queue.filter fun n => decide (n.level.val ≤ 2)).length < 28) := by
  simp [room, lowCount, Config.queueRoom, Config.lowRoom, Nat.lt_succ_iff]

/-- A source is eligible where it is pending at a level that fits (R159). -/
theorem eligibleLevel_iff : a.eligibleLevel i = some l ↔
    a.sources[i].pending.isSome = true ∧ a.sources[i].level = some l ∧ a.Fits l := by
  unfold eligibleLevel
  split
  case h_1 p m hp hm =>
    have hfit : (decide (a.mask ≤ m) && a.room m) = true ↔ a.Fits m := by
      rw [Bool.and_eq_true, decide_eq_true_eq, room_iff]; rfl
    rw [hp, hm, ite_eq_iff, hfit]
    constructor
    · rintro (⟨hfits, hl⟩ | ⟨-, hl⟩)
      · cases hl; exact ⟨rfl, rfl, hfits⟩
      · cases hl
    · rintro ⟨-, hl, hfits⟩
      cases hl; exact .inl ⟨hfits, rfl⟩
  case h_2 h =>
    refine ⟨nofun, fun ⟨hp, hl, _⟩ => ?_⟩
    obtain ⟨p, hp⟩ := Option.isSome_iff_exists.mp hp
    exact absurd hl (h p l hp)

theorem eligibleLevel_none_iff : a.eligibleLevel i = none ↔
    ∀ l, a.sources[i].pending.isSome = true → a.sources[i].level = some l → ¬a.Fits l := by
  simp only [Option.eq_none_iff_forall_ne_some, ne_eq, eligibleLevel_iff, not_and]

/-- All that can be posted is posted (R159). -/
def Posted (a : Arbiter) : Prop := ∀ i, a.eligibleLevel i = none

/-! ### The choice among the eligible (R159) -/

theorem best_eligible (h : a.best = some i) : ∃ l, a.eligibleLevel i = some l := by
  obtain ⟨l, -, hl⟩ := List.exists_of_findSome?_eq_some h
  exact ⟨l, by simpa using List.find?_some hl⟩

theorem best_none_iff : a.best = none ↔ a.Posted := by
  unfold best Posted
  simp only [List.findSome?_eq_none_iff, List.find?_eq_none, beq_iff_eq]
  refine ⟨fun h i => ?_, fun h l _ i _ he => by rw [h i] at he; cases he⟩
  refine Option.eq_none_iff_forall_ne_some.mpr fun l => h l ?_ i (List.mem_finRange i)
  revert l; decide

/-- The first of the sources eligible at a level. -/
theorem find_eligible (h : a.eligibleLevel i = some l) (hlow : ∀ j, a.eligibleLevel j = some l → i ≤ j) :
    allSources.find? (fun j => a.eligibleLevel j == some l) = some i := by
  refine (List.find?_eq_some_iff_getElem ..).mpr
    ⟨by simp [h], i.val, by simp [allSources], by simp [allSources], fun j hj => ?_⟩
  rw [Bool.not_eq_true', beq_eq_false_iff_ne]
  intro he
  have hle := Fin.le_def.mp (hlow _ he)
  simp only [allSources, List.getElem_finRange, Fin.val_cast] at hle
  omega

theorem best_of_highest (h : a.eligibleLevel i = some l)
    (hmax : ∀ j m, a.eligibleLevel j = some m → m < l ∨ m = l ∧ i ≤ j) : a.best = some i := by
  have hlevels : ∀ l : Fin 4, ([3, 2, 1, 0] : List (Fin 4))
      = ([3, 2, 1, 0] : List (Fin 4)).filter (fun m => l < m) ++ l :: ([3, 2, 1, 0] : List (Fin 4)).filter fun m => m < l := by
    decide
  refine List.findSome?_eq_some_iff.mpr ⟨_, l, _, hlevels l, find_eligible h fun j hj => ?_, fun m hm => ?_⟩
  · exact ((hmax j l hj).resolve_left (lt_irrefl l)).2
  · have hlm : l < m := by simpa using (List.mem_filter.mp hm).2
    refine List.find?_eq_none.mpr fun j _ hj => ?_
    rcases hmax j m (beq_iff_eq.mp hj) with hlt | ⟨he, -⟩
    · exact lt_asymm hlt hlm
    · exact hlm.ne' he

/-! ### One posting (R159, R160) -/

theorem postOne_eq (hp : a.sources[i].pending = some p) (hl : a.sources[i].level = some l) : a.postOne i = { a with
    sources := a.sources.set i { a.sources[i] with
      pending := none, posted := a.sources[i].posted || sourceIsLevel i }
    queue := a.queue ++ [⟨i, l, p.time, p.subject, p.value, p.repeats⟩] } := by
  unfold postOne
  rw [hp, hl]
  rfl

/-- The sources with a pending occurrence. -/
def pendingSet (a : Arbiter) : Finset SourceNo := Finset.univ.filter fun i => a.sources[i].pending.isSome = true

theorem mem_pendingSet : i ∈ a.pendingSet ↔ a.sources[i].pending.isSome = true := by simp [pendingSet]

theorem pendingSet_card (a : Arbiter) : a.pendingSet.card ≤ 21 := Finset.card_le_univ _

/-- A posting takes one source from the pending ones. -/
theorem postOne_pendingSet (h : a.eligibleLevel i = some l) : (a.postOne i).pendingSet = a.pendingSet.erase i := by
  obtain ⟨hp, hl, -⟩ := eligibleLevel_iff.mp h
  obtain ⟨p, hp⟩ := Option.isSome_iff_exists.mp hp
  have hsource (j : SourceNo) := a.put_sources i j { a.sources[i] with
    pending := none, posted := a.sources[i].posted || sourceIsLevel i }
  ext j
  rw [Finset.mem_erase, mem_pendingSet, mem_pendingSet, postOne_eq hp hl]
  show (a.put i _).sources[j].pending.isSome = true ↔ _
  rw [hsource]
  by_cases hij : i = j
  · simp [hij]
  · simp [hij, Ne.symm hij]

theorem postOne_card (h : a.best = some i) : (a.postOne i).pendingSet.card < a.pendingSet.card := by
  obtain ⟨l, hl⟩ := best_eligible h
  rw [postOne_pendingSet hl]
  exact Finset.card_erase_lt_of_mem (mem_pendingSet.mpr (eligibleLevel_iff.mp hl).1)

/-! ### Posting as a whole (R159) -/

theorem postFuel_succ_none (h : a.best = none) : postFuel (k + 1) a = a := by rw [postFuel, h]

theorem postFuel_succ_some (h : a.best = some i) : postFuel (k + 1) a = postFuel k (a.postOne i) := by rw [postFuel, h]

/-- No source is pending, so none is eligible. -/
theorem best_of_unpending (h : a.pendingSet.card = 0) : a.best = none :=
  Option.eq_none_iff_forall_ne_some.mpr fun _ hi => absurd (postOne_card hi) (by omega)

/-- A posting for each pending source leaves none eligible. -/
theorem postFuel_best (h : a.pendingSet.card ≤ k) : (postFuel k a).best = none := by
  induction k generalizing a with
  | zero => exact best_of_unpending (Nat.le_zero.mp h)
  | succ k ih =>
    cases hb : a.best with
    | none => rw [postFuel_succ_none hb, hb]
    | some i =>
      rw [postFuel_succ_some hb]
      exact ih (by have := postOne_card hb; omega)

/-- More postings than pending sources change nothing. -/
theorem postFuel_extra (h : a.pendingSet.card ≤ k) : postFuel (k + 1) a = postFuel k a := by
  induction k generalizing a with
  | zero => rw [postFuel_succ_none (best_of_unpending (Nat.le_zero.mp h)), postFuel]
  | succ k ih =>
    cases hb : a.best with
    | none => rw [postFuel_succ_none hb, postFuel_succ_none hb]
    | some i =>
      rw [postFuel_succ_some hb, postFuel_succ_some hb]
      exact ih (by have := postOne_card hb; omega)

theorem post_best (a : Arbiter) : a.post.best = none := postFuel_best a.pendingSet_card

theorem post_posted (a : Arbiter) : a.post.Posted := best_none_iff.mp a.post_best

theorem Posted.post (h : a.Posted) : a.post = a := post_of_none (best_none_iff.mpr h)

/-- Posting takes the best source, then goes on. -/
theorem post_some (h : a.best = some i) : a.post = (a.postOne i).post := by
  have hcard := postOne_card h
  have hall := a.pendingSet_card
  exact (postFuel_succ_some h).trans (postFuel_extra (k := 20) (by omega)).symm

end Posting

end Arbiter

/-- Settles O20: what is eligible, and one posting after another of the best source. -/
theorem postingTakesTheHighest : Obligations.PostingTakesTheHighest := by
  intro a
  refine ⟨fun i l => Arbiter.eligibleLevel_iff, a.post_best, Arbiter.Posted.post, fun i l p h hp hmax => ?_⟩
  obtain ⟨-, hl, -⟩ := Arbiter.eligibleLevel_iff.mp h
  rw [Arbiter.post_some (Arbiter.best_of_highest h hmax), Arbiter.postOne_eq hp hl]

end Sys2Proof.Machine
end

section
/-! What a raise and a report make of an arbiter in which all that can be posted is posted (`Obligations.RaisesAndReports`). -/

namespace Sys2Proof.Machine

namespace Arbiter

section Reports

variable {a : Arbiter} {i j : SourceNo} {l : Fin 4} {p : Pending} {x : Source} {now : Time} {sub : Option Nat}
  {v : Option Value}

/-! ### A source put where all is posted (R159) -/

theorem put_put (a : Arbiter) (i : SourceNo) (x y : Source) : (a.put i x).put i y = a.put i y := by
  simp only [put, Vector.set_set]

theorem put_self (a : Arbiter) (i : SourceNo) : a.put i a.sources[i] = a := by simp [put]

theorem put_source (a : Arbiter) (i : SourceNo) (x : Source) : (a.put i x).sources[i] = x := by
  rw [put_sources, if_pos rfl]

theorem put_eligible_other (h : i ≠ j) : (a.put i x).eligibleLevel j = a.eligibleLevel j := by
  unfold eligibleLevel
  rw [put_sources, if_neg h]
  rfl

/-- A source that is not pending, or that no notice fits, is not posted. -/
theorem Posted.put (h : a.Posted) (hx : ∀ l, x.pending.isSome = true → x.level = some l → ¬a.Fits l) : (a.put i x).Posted := by
  intro j
  by_cases hij : i = j
  · subst hij
    rw [eligibleLevel_none_iff, put_source]
    exact hx
  · rw [put_eligible_other hij]
    exact h j

/-- A longer queue has no more room (R158). -/
theorem Posted.enqueue (h : a.Posted) (ns : List Notice) : Posted { a with queue := a.queue ++ ns } := by
  intro j
  rw [eligibleLevel_none_iff]
  rintro l hp hl ⟨hmask, hroom, hlow⟩
  refine eligibleLevel_none_iff.mp (h j) l hp hl ⟨hmask, ?_, hlow.imp id fun hlow => ?_⟩
  · rw [List.length_append] at hroom
    omega
  · rw [List.filter_append, List.length_append] at hlow
    omega

theorem post_put_unfit (h : a.Posted) (hx : ∀ l, x.pending.isSome = true → x.level = some l → ¬a.Fits l) :
    (a.put i x).post = a.put i x := (h.put hx).post

/-- A source put pending where its notice fits is posted, and nothing more. -/
theorem post_put_fits (h : a.Posted) (hp : x.pending = some p) (hl : x.level = some l) (hf : a.Fits l) :
    (a.put i x).post = { a.put i { x with pending := none, posted := x.posted || sourceIsLevel i } with
      queue := a.queue ++ [⟨i, l, p.time, p.subject, p.value, p.repeats⟩] } := by
  have heligible : (a.put i x).eligibleLevel i = some l := by
    rw [eligibleLevel_iff, put_source, hp]
    exact ⟨rfl, hl, hf⟩
  have hbest : (a.put i x).best = some i := by
    refine best_of_highest heligible fun j m hj => ?_
    by_cases hij : i = j
    · subst hij
      rw [heligible] at hj
      cases hj
      exact .inr ⟨rfl, le_refl i⟩
    · rw [put_eligible_other hij, h j] at hj
      cases hj
  have hposted : Posted { a.put i { x with pending := none, posted := x.posted || sourceIsLevel i } with
      queue := a.queue ++ [⟨i, l, p.time, p.subject, p.value, p.repeats⟩] } :=
    (h.put (x := { x with pending := none, posted := x.posted || sourceIsLevel i }) nofun).enqueue _
  have hone := (a.put i x).postOne_eq (i := i) ((congrArg _ (a.put_source i x)).trans hp) ((congrArg _ (a.put_source i x)).trans hl)
  rw [put_source] at hone
  rw [post_some hbest, ← hposted.post, hone]
  exact congrArg (fun b : Arbiter => post { b with queue := a.queue ++ _ }) (a.put_put i x _)

/-! ### Raises (R154) -/

theorem raise_disabled (hl : a.sources[i].level = none) : a.raise now i sub v = a := by rw [raise, hl]

theorem raise_repeated (hl : a.sources[i].level = some l) (hp : a.sources[i].pending = some p) : a.raise now i sub v
    = (a.put i { a.sources[i] with pending := some { p with repeats := min 255 (p.repeats + 1) } }).post := by
  have hcount : satAdd 255 p.repeats 1 = min 255 (p.repeats + 1) := by unfold satAdd; split <;> omega
  rw [raise, hl, ← hcount]
  simp only [hp]

theorem raise_first (hl : a.sources[i].level = some l) (hp : a.sources[i].pending = none) : a.raise now i sub v
    = (a.put i { a.sources[i] with pending := some ⟨now, sub, v, 0⟩ }).post := by
  rw [raise, hl]
  simp only [hp]

/-- An EDGE source raised where its notice fits is posted at once (R154, R159). -/
theorem raise_fits (h : a.Posted) (hedge : sourceIsLevel i = false) (hl : a.sources[i].level = some l)
    (hp : a.sources[i].pending = none) (hf : a.Fits l) :
    a.raise now i sub v = { a with queue := a.queue ++ [⟨i, l, now, sub, v, 0⟩] } := by
  have hback : { a.sources[i] with pending := none, posted := a.sources[i].posted || sourceIsLevel i } = a.sources[i] := by
    rw [hedge, Bool.or_false, ← hp]
  have hpost := post_put_fits (i := i) (x := { a.sources[i] with pending := some ⟨now, sub, v, 0⟩ }) h rfl hl hf
  have hput := (congrArg (a.put i) hback).trans (a.put_self i)
  rw [raise_first hl hp, hpost]
  exact congrArg (fun b : Arbiter => { b with queue := a.queue ++ [noticeOf i l ⟨now, sub, v, 0⟩] }) hput

/-- A source has one level, so a notice of it fits at that level or at none. -/
theorem unfit_of_level {m : Fin 4} (hl : a.sources[i].level = some l) (h : ¬a.Fits l) (hm : a.sources[i].level = some m) :
    ¬a.Fits m := Option.some.inj (hl.symm.trans hm) ▸ h

/-! ### Reports (R155) -/

theorem report_same {b : Bool} (h : a.sources[i].cond = b) : a.report now i b sub v = a := by
  subst h
  unfold report
  cases a.sources[i].cond <;> rfl

theorem report_false (h : a.sources[i].cond = true) : a.report now i false sub v
    = (a.put i { a.sources[i] with cond := false, posted := false, pending := none }).post := by
  rw [report, h]
  rfl

theorem report_true (h : a.sources[i].cond = false) : a.report now i true sub v = (a.put i { a.sources[i] with
    cond := true, lastSubject := sub, lastValue := v, posted := false
    pending := if a.sources[i].level.isSome then some ⟨now, sub, v, 0⟩ else a.sources[i].pending }).post := by
  rw [report, h]
  rfl

/-- A condition reported true where its notice fits is posted, once (R155, R159). -/
theorem report_fits (h : a.Posted) (hlevel : sourceIsLevel i = true) (hc : a.sources[i].cond = false)
    (hl : a.sources[i].level = some l) (hf : a.Fits l) : a.report now i true sub v = { a with
      sources := a.sources.set i { a.sources[i] with
        cond := true, lastSubject := sub, lastValue := v, posted := true, pending := none }
      queue := a.queue ++ [⟨i, l, now, sub, v, 0⟩] } := by
  have hpost := post_put_fits (i := i) (p := ⟨now, sub, v, 0⟩) (x := { a.sources[i] with
    cond := true, lastSubject := sub, lastValue := v, posted := false, pending := some ⟨now, sub, v, 0⟩ }) h rfl hl hf
  rw [hlevel] at hpost
  rw [report_true hc, hl]
  exact hpost

end Reports

end Arbiter

/-- Settles O21: the source is put with its occurrence, and a posting is of that source alone. -/
theorem raisesAndReports : Obligations.RaisesAndReports := by
  refine ⟨fun a now i x v hposted hedge => ?_, fun a now i x v hposted hlevel => ?_⟩
  · refine ⟨Arbiter.raise_disabled, fun l p hl hp _ => ?_, fun l hl hp =>
      ⟨Arbiter.raise_fits hposted hedge hl hp, fun hf => ?_⟩⟩
    · exact (Arbiter.raise_repeated hl hp).trans
        (Arbiter.post_put_unfit hposted fun m _ => Arbiter.eligibleLevel_none_iff.mp (hposted i) m (by rw [hp]; rfl))
    · have hunfit := Arbiter.not_fits_iff.mpr hf
      exact (Arbiter.raise_first hl hp).trans (Arbiter.post_put_unfit hposted fun m _ => Arbiter.unfit_of_level hl hunfit)
  · refine ⟨fun b => Arbiter.report_same, fun hc => ?_, fun hc hl hp => ?_, fun l hc hl =>
      ⟨Arbiter.report_fits hposted hlevel hc hl, fun hf => ?_⟩⟩
    · exact (Arbiter.report_false hc).trans (Arbiter.post_put_unfit hposted nofun)
    · rw [Arbiter.report_true hc, hl]
      exact Arbiter.post_put_unfit hposted fun m _ hm => nomatch hl.symm.trans hm
    · have hunfit := Arbiter.not_fits_iff.mpr hf
      rw [Arbiter.report_true hc, hl]
      exact Arbiter.post_put_unfit hposted fun m _ => Arbiter.unfit_of_level hl hunfit

end Sys2Proof.Machine
end

section
/-! The arbiter's own requests (`Obligations.ArbiterRequests`): SET SOURCE, SET MASK and TAKE NOTICES. -/

namespace Sys2Proof.Machine

/-! ### SET SOURCE (R156) -/

section SetSource

variable {s : State} {tag index level : Byte} {i : SourceNo} {l : Option (Fin 4)} {x : Source} {now : Time}

theorem sourceOf_none (h : index.toNat < 2 ∨ 20 < index.toNat) : sourceOf index = none := dif_neg (by omega)

theorem sourceOf_eq (h2 : 2 ≤ i.val) (h : index.toNat = i.val) : sourceOf index = some i := by
  rw [sourceOf, dif_pos (by omega)]
  exact congrArg some (Fin.ext h)

/-- The level that SET SOURCE takes from a character (R156). -/
def LevelTaken (level : Byte) (l : Option (Fin 4)) : Prop :=
  level.toNat = 255 ∧ l = none ∨ (∃ k : Fin 4, k.val ≤ 2 ∧ level.toNat = k.val ∧ l = some k)
    ∨ 3 ≤ level.toNat ∧ level.toNat ≤ 254 ∧ l = some 2

theorem LevelTaken.levelOf (h : LevelTaken level l) : levelOf level = l := by
  unfold Machine.levelOf
  obtain ⟨h255, rfl⟩ | ⟨k, hk, hlevel, rfl⟩ | ⟨hlo, hhi, rfl⟩ := h
  · rw [if_pos h255]
  · rw [hlevel, if_neg (by omega)]
    match k, hk with
    | 0, _ => rfl
    | 1, _ => rfl
    | 2, _ => rfl
  · rw [if_neg (by omega), if_neg (by omega), if_neg (by omega)]

/-- The reply shows the level as taken (R187). -/
theorem LevelTaken.char (h : LevelTaken level l) :
    BitVec.ofNat 8 (levelCode l) = if l = none then 255 else BitVec.ofNat 8 (min level.toNat 2) := by
  obtain ⟨-, rfl⟩ | ⟨k, hk, hlevel, rfl⟩ | ⟨hlo, -, rfl⟩ := h
  · rfl
  · rw [if_neg nofun, hlevel, Nat.min_eq_left hk]
    rfl
  · rw [if_neg nofun, Nat.min_eq_right (by omega)]
    rfl

theorem Arbiter.pendingAfterLevel_eq : pendingAfterLevel now i x l =
    if l = none ∧ x.level ≠ none then none
    else if l ≠ none ∧ x.level = none then
      if sourceIsLevel i = true ∧ x.cond = true then some ⟨now, x.lastSubject, x.lastValue, 0⟩ else none
    else x.pending := by
  unfold pendingAfterLevel
  cases hx : x.level <;> cases l <;> simp

/-- A level set is a source put, then the posting of what is eligible (R156, R159). -/
theorem Arbiter.setLevel_eq (a : Arbiter) (now : Time) (i : SourceNo) (l : Option (Fin 4)) : a.setLevel now i l
    = (a.put i { a.sources[i] with
        level := l
        pending :=
          if l = none ∧ a.sources[i].level ≠ none then none
          else if l ≠ none ∧ a.sources[i].level = none then
            if sourceIsLevel i = true ∧ a.sources[i].cond = true then
              some ⟨now, a.sources[i].lastSubject, a.sources[i].lastValue, 0⟩
            else none
          else a.sources[i].pending
        posted := if l = none ∧ a.sources[i].level ≠ none then false else a.sources[i].posted }).post := by
  have hposted : (if a.sources[i].level.isSome && l.isNone then false else a.sources[i].posted)
      = if l = none ∧ a.sources[i].level ≠ none then false else a.sources[i].posted :=
    if_congr (by cases a.sources[i].level <;> cases l <;> simp) rfl rfl
  rw [setLevel, pendingAfterLevel_eq, hposted]

theorem exec_setSource_refused (hrx : s.link.rx ≠ .replying) (h : index.toNat < 2 ∨ 20 < index.toNat) :
    exec (.setSource tag index level) s = .next (s.replied 24 tag (bare .badField)) :=
  next_request hrx (by rw [ansSetSource, sourceOf_none h])

theorem exec_setSource_taken (hrx : s.link.rx ≠ .replying) (h2 : 2 ≤ i.val) (hi : index.toNat = i.val)
    (hl : LevelTaken level l) : exec (.setSource tag index level) s
      = .next (State.replied { s with arb := s.arb.setLevel s.clock i l } 24 tag
        ⟨.done, decide (3 ≤ level.toNat ∧ level.toNat ≤ 254),
          index :: (if l = none then 255 else BitVec.ofNat 8 (min level.toNat 2))
            :: pendingChars (s.arb.setLevel s.clock i l).sources[i].pending⟩) := by
  have hindex : BitVec.ofNat 8 i.val = index := by rw [← hi, BitVec.ofNat_toNat, BitVec.setWidth_eq]
  refine next_request hrx ?_
  rw [ansSetSource, sourceOf_eq h2 hi, ← hl.char, hl.levelOf]
  simp only [doneClamped, char1, hindex, List.cons_append, List.nil_append]

end SetSource

/-! ### SET MASK (R157) -/

section SetMask

variable {s : State} {tag mask attention : Byte} {m x : Fin 4}

theorem maskOf_eq (h : m.val = min 3 mask.toNat) : maskOf mask = m := by
  unfold maskOf
  refine Fin.ext ?_
  split
  · exact (h.trans (Nat.min_eq_right (by omega))).symm
  · exact (h.trans (Nat.min_eq_left (by omega))).symm

theorem exec_setMask (hrx : s.link.rx ≠ .replying) (hm : m.val = min 3 mask.toNat) (hx : x.val = min 3 attention.toNat) :
    exec (.setMask tag mask attention) s = .next (State.replied
      { s with arb := Arbiter.post { s.arb with mask := m, attention := x } } 25 tag
      ⟨.done, decide (3 < mask.toNat ∨ 3 < attention.toNat), [BitVec.ofNat 8 m.val, BitVec.ofNat 8 x.val]⟩) := by
  refine next_request hrx ?_
  rw [ansSetMask, maskOf_eq hm, maskOf_eq hx]
  rfl

end SetMask

/-! ### TAKE NOTICES (R161, R162) -/

section TakeNotices

variable {a : Arbiter} {s : State} {tag : Byte} {ns : List Notice}

theorem Arbiter.take_new (h : ∀ p ∈ a.saved, p.1 ≠ tag) :
    a.take tag = { Arbiter.post { a with queue := a.queue.drop 8 } with saved := some (tag, a.queue.take 8) } := by
  have hnew : a.isRepeat tag = false := by
    rw [isRepeat, Option.any_eq_false]
    exact fun p hp => beq_eq_false_iff_ne.mpr (h p hp)
  rw [take, hnew]
  rfl

theorem Arbiter.take_again (h : a.saved = some (tag, ns)) : a.take tag = a :=
  if_pos (by rw [isRepeat, h]; exact beq_self_eq_true tag)

theorem exec_takeNotices_new (hrx : s.link.rx ≠ .replying) (h : ∀ p ∈ s.arb.saved, p.1 ≠ tag) :
    exec (.takeNotices tag) s = .next (State.replied { s with arb := { Arbiter.post { s.arb with queue := s.arb.queue.drop 8 } with
        saved := some (tag, s.arb.queue.take 8) } } 26 tag
      ⟨.done, false, BitVec.ofNat 8 (min 8 s.arb.queue.length) :: ((s.arb.queue.take 8).flatMap Notice.chars
        ++ [BitVec.ofNat 8 (Arbiter.post { s.arb with queue := s.arb.queue.drop 8 }).queue.length])⟩) := by
  refine next_request hrx ?_
  rw [ansTakeNotices, Arbiter.take_new h]
  simp only [Option.map_some, Option.getD_some, doneWith, noticesContent, char1, List.length_take, List.cons_append,
    List.nil_append]

theorem exec_takeNotices_again (hrx : s.link.rx ≠ .replying) (h : s.arb.saved = some (tag, ns)) :
    exec (.takeNotices tag) s = .next (s.replied 26 tag
      ⟨.done, false, BitVec.ofNat 8 ns.length :: (ns.flatMap Notice.chars ++ [BitVec.ofNat 8 s.arb.queue.length])⟩) := by
  refine next_request hrx ?_
  rw [ansTakeNotices, Arbiter.take_again h, h]
  rfl

end TakeNotices

/-- Settles O22, request by request. -/
theorem arbiterRequests : Obligations.ArbiterRequests := by
  refine ⟨fun s tag index level hrx => ⟨exec_setSource_refused hrx, fun i l h2 hi hl => ?_⟩, fun s tag hrx =>
    ⟨fun mask attention m x => exec_setMask hrx, fun h => ⟨_, rfl, exec_takeNotices_new hrx h⟩,
      fun ns => exec_takeNotices_again hrx⟩⟩
  exact ⟨s.arb.setLevel s.clock i l, s.arb.setLevel_eq s.clock i l, exec_setSource_taken hrx h2 hi hl⟩

end Sys2Proof.Machine
end

section
/-! The laws of the notices at the arbiter (R154 to R162): whatever is raised, reported, set or taken, posting leaves the queue
within its bounds and nothing pending that could be posted. -/

namespace Sys2Proof.Machine

namespace Arbiter

section Laws

variable {a : Arbiter} {i : SourceNo} {x : Source} {k : Nat}

/-! ### Bounds of the queue (R158) -/

/-- The queue is within its bounds, and no DISABLED source is pending (R154, R156, R158). -/
structure Orderly (a : Arbiter) : Prop where
  total : a.queue.length ≤ 32
  low : (a.queue.filter fun n => decide (n.level.val ≤ 2)).length ≤ 28
  enabled : ∀ i : SourceNo, a.sources[i].pending.isSome = true → a.sources[i].level.isSome = true

/-- The queue is within its bounds, and all that can be posted is posted (R158, R159). -/
structure Lawful (a : Arbiter) : Prop extends a.Orderly where
  posted : a.Posted

theorem Orderly.put (h : a.Orderly) (hx : x.pending.isSome = true → x.level.isSome = true) : (a.put i x).Orderly := by
  refine ⟨h.total, h.low, fun j hj => ?_⟩
  rw [put_sources] at hj ⊢
  split
  case isTrue hij => rw [if_pos hij] at hj; exact hx hj
  case isFalse hij => rw [if_neg hij] at hj; exact h.enabled j hj

/-- A queue with a notice that fits is within its bounds (R158). -/
theorem Orderly.enqueue {n : Notice} (h : a.Orderly) (hf : a.Fits n.level) : Orderly { a with queue := a.queue ++ [n] } := by
  obtain ⟨-, hroom, hlow⟩ := hf
  refine ⟨?_, ?_, h.enabled⟩
  · rw [List.length_append, List.length_singleton]
    omega
  · rw [List.filter_append, List.length_append]
    rcases hlow with hthree | hlow
    · have hnone : [n].filter (fun n => decide (n.level.val ≤ 2)) = [] := by simp [hthree]
      rw [hnone]
      exact h.low
    · have hone := List.length_filter_le (fun n : Notice => decide (n.level.val ≤ 2)) [n]
      rw [List.length_singleton] at hone
      omega

theorem Orderly.postOne (h : a.Orderly) (hi : a.best = some i) : (a.postOne i).Orderly := by
  obtain ⟨l, hl⟩ := best_eligible hi
  obtain ⟨hp, hlevel, hf⟩ := eligibleLevel_iff.mp hl
  obtain ⟨p, hp⟩ := Option.isSome_iff_exists.mp hp
  have hput := h.put (i := i) (x := { a.sources[i] with pending := none, posted := a.sources[i].posted || sourceIsLevel i }) nofun
  rw [postOne_eq hp hlevel]
  exact hput.enqueue (n := ⟨i, l, p.time, p.subject, p.value, p.repeats⟩) hf

theorem Orderly.postFuel (h : a.Orderly) : (postFuel k a).Orderly := by
  induction k generalizing a with
  | zero => exact h
  | succ k ih =>
    cases hb : a.best with
    | none => rw [postFuel_succ_none hb]; exact h
    | some i => rw [postFuel_succ_some hb]; exact ih (h.postOne hb)

theorem Orderly.post (h : a.Orderly) : a.post.Lawful := ⟨h.postFuel, a.post_posted⟩

/-! ### Operations that end with a posting (R154 to R157, R161) -/

theorem Lawful.raise (h : a.Lawful) (now : Time) (i : SourceNo) (sub : Option Nat) (v : Option Value) :
    (a.raise now i sub v).Lawful := by
  unfold Arbiter.raise
  split
  · exact h
  case h_2 l hl => exact (h.put fun _ => by rw [hl]; rfl).post

theorem Lawful.report (h : a.Lawful) (now : Time) (i : SourceNo) (c : Bool) (sub : Option Nat) (v : Option Value) :
    (a.report now i c sub v).Lawful := by
  unfold Arbiter.report
  split
  · refine (h.put fun hp => ?_).post
    cases hl : a.sources[i].level with
    | some l => rfl
    | none => simp only [hl] at hp; exact hl ▸ h.enabled i hp
  · split
    · refine (h.put ?_).post
      exact nofun
    · exact h

/-- A source that goes DISABLED loses what is pending (R156). -/
theorem pendingAfterLevel_enabled {now : Time} {l : Option (Fin 4)} (hx : x.pending.isSome = true → x.level.isSome = true)
    (h : (pendingAfterLevel now i x l).isSome = true) : l.isSome = true := by
  unfold pendingAfterLevel at h
  split at h
  case h_1 => rfl
  case h_2 => cases h
  case h_3 => rfl
  case h_4 hl => exact hl ▸ hx h

theorem Lawful.setLevel (h : a.Lawful) (now : Time) (i : SourceNo) (l : Option (Fin 4)) : (a.setLevel now i l).Lawful := by
  refine (h.put ?_).post
  exact pendingAfterLevel_enabled (h.enabled i)

theorem Lawful.setMask (h : a.Lawful) (m x : Fin 4) : (a.setMask m x).Lawful :=
  Orderly.post (a := { a with mask := m, attention := x }) ⟨h.total, h.low, h.enabled⟩

theorem Lawful.take (h : a.Lawful) (tag : Byte) : (a.take tag).Lawful := by
  unfold Arbiter.take
  split
  · exact h
  · have hqueue : (a.queue.drop 8).Sublist a.queue := List.drop_sublist 8 a.queue
    have hshort : Orderly { a with queue := a.queue.drop 8 } :=
      ⟨hqueue.length_le.trans h.total, (hqueue.filter _).length_le.trans h.low, h.enabled⟩
    obtain ⟨⟨htotal, hlow, henabled⟩, hposted⟩ := hshort.post
    exact ⟨⟨htotal, hlow, henabled⟩, hposted⟩

end Laws

end Arbiter

/-- The two laws of the notices speak of the arbiter alone (R158, R159). -/
theorem State.noticeLaws_iff (s : State) : s.noticeLaw ∧ s.postedLaw ↔ s.arb.Lawful := by
  constructor
  · rintro ⟨⟨htotal, hlow⟩, hheld⟩
    refine ⟨⟨htotal, hlow, fun i hp => ?_⟩, fun i => Arbiter.eligibleLevel_none_iff.mpr fun l hp hl => ?_⟩
    · obtain ⟨l, hl, -⟩ := hheld i hp
      exact Option.isSome_of_mem hl
    · obtain ⟨m, hm, hunfit⟩ := hheld i hp
      cases hl.symm.trans hm
      exact Arbiter.not_fits_iff.mpr hunfit
  · rintro ⟨⟨htotal, hlow, henabled⟩, hposted⟩
    refine ⟨⟨htotal, hlow⟩, fun i hp => ?_⟩
    obtain ⟨l, hl⟩ := Option.isSome_iff_exists.mp (henabled i hp)
    exact ⟨l, hl, Arbiter.not_fits_iff.mp (Arbiter.eligibleLevel_none_iff.mp (hposted i) l hp hl)⟩

end Sys2Proof.Machine
end

section
/-! Every step keeps the laws of the notices (`Obligations.NoticeLawsKept`): a step reaches the arbiter by raises and reports, by
the arbiter's own requests, or by device reset. -/

namespace Sys2Proof.Machine

/-- A move that keeps the laws of the notices. -/
def State.Announces (s t : State) : Prop := s.arb.Lawful → t.arb.Lawful

section Announces

variable {s t u : State}

theorem State.Announces.refl (s : State) : s.Announces s := id

theorem State.Announces.trans (h : s.Announces t) (k : t.Announces u) : s.Announces u := k ∘ h

/-- A move that leaves the arbiter. -/
theorem State.Announces.of_arb (h : t.arb = s.arb) : s.Announces t := fun hs => by rwa [h]

/-- A case that changes nothing where its condition fails. -/
theorem State.Announces.ite {c : Prop} [Decidable c] (h : s.Announces t) : s.Announces (if c then t else s) := by
  split
  · exact h
  · exact .refl s

theorem foldl_announces {α : Type} {f : State → α → State} (hf : ∀ s a, State.Announces s (f s a)) (l : List α) (s : State) :
    s.Announces (l.foldl f s) := foldl_frame State.Announces.refl State.Announces.trans hf l s

theorem GateFrame.arb (h : GateFrame s t) : t.arb = s.arb := by rw [h]

theorem GateFrame.announces (h : GateFrame s t) : s.Announces t := .of_arb h.arb

theorem State.raise_announces (s : State) (i : SourceNo) (x : Option Nat) (v : Option Value) : s.Announces (s.raise i x v) :=
  fun h => h.raise s.clock i x v

theorem State.report_announces (s : State) (i : SourceNo) (b : Bool) (x : Option Nat) (v : Option Value) :
    s.Announces (s.report i b x v) := fun h => h.report s.clock i b x v

end Announces

/-! ### The gate (R70 to R82) -/

section Gate

theorem State.pins_announces (s : State) (p : Pins) : s.Announces { s with pins := p } := .of_arb rfl

theorem State.enterJam_announces (s : State) (c : JamCause) : s.Announces (s.enterJam c) :=
  fun h => h.raise s.clock srcFeedJam _ _

theorem State.feederHalt_announces (s : State) (c : JamCause) : s.Announces (s.feederHalt c) := by
  unfold State.feederHalt
  split
  · exact (s.returnToHead_frame.trans (State.feederToIdle_frame _)).announces
  · exact s.enterJam_announces c
  · exact .refl s

theorem State.feederPass_announces (s : State) : s.Announces s.feederPass :=
  State.Announces.trans (t := s.judgeVessel) (s.report_announces _ _ _ _) (State.judgePermit_frame _).announces

theorem State.gateOpened_announces (s : State) : s.Announces s.gateOpened := by
  unfold State.gateOpened
  simp only
  split
  · exact .refl s
  · exact (s.pins_announces _).trans (.ite (.of_arb rfl))

theorem State.gateShut_announces (s : State) : s.Announces s.gateShut := by
  unfold State.gateShut
  simp only
  split
  · exact .refl s
  · exact (s.pins_announces _).trans (.ite (State.feederToIdle_frame _).announces)

theorem State.openExpired_announces (s : State) : s.Announces s.openExpired :=
  .ite (s.returnToHead_frame.announces.trans (State.enterJam_announces _ _))

theorem State.beamCleared_announces (s : State) : s.Announces s.beamCleared :=
  (s.pins_announces _).trans (.ite ((State.feedEvent_frame _ _ _).trans (State.enterClosing_frame _)).announces)

theorem State.shredderRuns_announces (s : State) (b : Bool) : s.Announces (s.shredderRuns b) := by
  unfold State.shredderRuns
  split
  · exact .refl s
  · exact (s.pins_announces _).trans (State.judgePermit_frame _).announces

end Gate

/-! ### The stations (R25 to R48) -/

section Stations

theorem State.modStation_announces (s : State) (n : StationNo) (f : Station → Station) : s.Announces (s.modStation n f) :=
  .of_arb rfl

theorem State.modRecord_announces (s : State) (i : Slot) (f : Record → Record) : s.Announces (s.modRecord i f) := .of_arb rfl

theorem State.enterTimed_announces (s : State) (n : StationNo) (x : StationState) (ms : Nat) :
    s.Announces (s.enterTimed n x ms) := .of_arb rfl

theorem State.enterAwait_announces (s : State) (n : StationNo) : s.Announces (s.enterAwait n) := .of_arb rfl

theorem State.enterFaulted_announces (s : State) (n : StationNo) (c : FaultCause) (x : Option Slot) :
    s.Announces (s.enterFaulted n c x) := (s.modStation_announces n _).trans (State.raise_announces _ _ _ _)

theorem State.returnBound_announces (s : State) (n : StationNo) : s.Announces (s.returnBound n) := by
  unfold State.returnBound
  split
  · exact .refl s
  · exact s.modRecord_announces _ _

/-- An attempt ends with a fault, with a verdict, or without a notice (R47, R62). -/
theorem State.endAttempt_announces (s : State) (n : StationNo) (i : Slot) : s.Announces (s.endAttempt n i) := by
  have hunbind := s.modRecord_announces i Record.unbind
  have hawait := hunbind.trans (State.enterAwait_announces _ n)
  have hverdict (v : Verdict) : s.Announces
      (((s.modRecord i fun r => r.extract v).raise (srcStationDone n) (some i.val) (some (.verdict v))).enterAwait n) :=
    ((s.modRecord_announces i _).trans (State.raise_announces _ _ _ _)).trans (State.enterAwait_announces _ n)
  unfold State.endAttempt
  split
  · exact hawait
  · exact hawait
  · exact hawait
  · exact hunbind.trans (State.enterFaulted_announces _ n _ _)
  · exact hverdict _
  · exact hverdict _
  · split
    · exact .refl s
    · exact hverdict _

theorem State.weigh_announces (s : State) (n : StationNo) (wf ofl : Int) (b : Bool) : s.Announces (s.weigh n wf ofl b) := by
  unfold State.weigh
  split
  · exact .refl s
  · split
    · exact .refl s
    · exact ((s.modRecord_announces _ _).trans (State.modStation_announces _ n _)).trans (State.endAttempt_announces _ n _)

theorem State.enterPiercing_announces (s : State) (n : StationNo) : s.Announces (s.enterPiercing n) := by
  unfold State.enterPiercing
  simp only
  split <;> exact .of_arb rfl

theorem State.judgeRings_announces (s : State) (n : StationNo) : s.Announces (s.judgeRings n) := by
  refine .ite ?_
  split
  · exact s.enterPiercing_announces n
  · exact s.weigh_announces n _ _ _
  · exact s.weigh_announces n _ _ _
  · exact .refl s

theorem State.enterTaring_announces (s : State) (n : StationNo) : s.Announces (s.enterTaring n) :=
  (s.enterTimed_announces n _ _).trans (State.judgeRings_announces _ n)

theorem State.enterClamping_announces (s : State) (n : StationNo) : s.Announces (s.enterClamping n) := by
  have htimed := s.enterTimed_announces n .clamping (s.item iTClamp)
  unfold State.enterClamping
  simp only
  split
  · exact htimed.trans (State.enterTaring_announces _ n)
  · exact htimed

theorem State.enterWeighing_announces (s : State) (n : StationNo) : s.Announces (s.enterWeighing n) :=
  (s.enterTimed_announces n _ _).trans (State.judgeRings_announces _ n)

theorem State.enterAbortWeighing_announces (s : State) (n : StationNo) (c : EndCause) : s.Announces (s.enterAbortWeighing n c) :=
  ((s.modStation_announces n _).trans (State.enterTimed_announces _ n _ _)).trans (State.judgeRings_announces _ n)

theorem State.enterDraining_announces (s : State) (n : StationNo) : s.Announces (s.enterDraining n) := by
  unfold State.enterDraining
  split
  · exact s.enterWeighing_announces n
  · exact s.enterTimed_announces n _ _

theorem State.judgeFill_announces (s : State) (n : StationNo) : s.Announces (s.judgeFill n) :=
  .ite (s.enterAbortWeighing_announces n _)

theorem State.enterEvacuating_announces (s : State) (n : StationNo) (b : Bool) : s.Announces (s.enterEvacuating n b) :=
  ((s.modStation_announces n _).trans (State.enterTimed_announces _ n _ _)).trans (State.judgeFill_announces _ n)

theorem State.judgeDwell_announces (s : State) (n : StationNo) : s.Announces (s.judgeDwell n) := by
  unfold State.judgeDwell
  simp only
  repeat' split
  all_goals exact .of_arb rfl

theorem State.judgeRise_announces (s : State) (n : StationNo) : s.Announces (s.judgeRise n) := by
  unfold State.judgeRise
  simp only
  split
  · refine .ite ?_
    split
    · exact (s.modStation_announces n _).trans (State.enterEvacuating_announces _ n false)
    · split
      · exact s.enterDraining_announces n
      · exact (s.modRecord_announces _ _).trans (State.enterDraining_announces _ n)
  · exact .refl s

theorem State.stationConverted_announces (s : State) (c : Fin 8) : s.Announces (s.stationConverted c) := by
  unfold State.stationConverted State.scaleConverted State.suctionConverted
  simp only
  split
  · split
    · exact s.judgeFill_announces _
    · exact s.judgeRings_announces _
  · split
    · exact s.judgeDwell_announces _
    · exact s.judgeRise_announces _
    · exact .refl s

theorem State.judgeProbe_announces (s : State) (n : StationNo) (i : Slot) (c : Option Gas) (o : ProbeOutcome) :
    s.Announces (s.judgeProbe n i c o) := by
  have hclass := s.modStation_announces n fun x => { x with attemptClass := c }
  unfold State.judgeProbe
  simp only
  split
  · exact hclass.trans (State.enterAbortWeighing_announces _ n _)
  · exact (hclass.trans (State.modRecord_announces _ i _)).trans (State.enterAbortWeighing_announces _ n _)
  · exact hclass.trans (State.modStation_announces _ n _)
  · exact hclass

theorem State.probeRecord_announces (s : State) (i : Slot) (r : Record) (g : Option Gas) : s.Announces (s.probeRecord i r g) := by
  unfold State.probeRecord
  split
  · exact .refl s
  · exact (s.modRecord_announces i _).trans (.ite (State.raise_announces _ _ _ _))

theorem State.takeProbe_announces (s : State) (n : StationNo) (p : BitVec 2) :
    s.Announces ((s.analyserSeen n p).takeProbe n p) := by
  have htaken : s.Announces ((s.analyserSeen n p).modStation n fun x => { x with probeTaken := true, probeDeadline := none }) :=
    .of_arb rfl
  unfold State.takeProbe
  simp only
  split
  · exact htaken
  · split
    · exact htaken
    · exact (htaken.trans (State.probeRecord_announces _ _ _ _)).trans (State.judgeProbe_announces _ n _ _ _)

theorem State.evacTimedOut_announces (s : State) (n : StationNo) : s.Announces (s.evacTimedOut n) := by
  refine .ite ?_
  split <;> exact .of_arb rfl

theorem State.evacExpired_announces (s : State) (n : StationNo) (p : BitVec 2) : s.Announces (s.evacExpired n p) := by
  refine .ite ?_
  split
  · exact s.evacTimedOut_announces n
  · exact (s.takeProbe_announces n p).trans (State.evacTimedOut_announces _ n)

theorem State.abort_announces (s : State) (n : StationNo) (c : EndCause) : s.Announces (s.abort n c) := by
  unfold State.abort
  split
  · exact s.enterAbortWeighing_announces n c
  · exact (s.returnBound_announces n).trans (State.enterAwait_announces _ n)

theorem State.stationStop_announces (s : State) (n : StationNo) : s.Announces (s.stationStop n) := .ite (s.abort_announces n _)

theorem State.faultUnpierced_announces (s : State) (n : StationNo) (c : FaultCause) : s.Announces (s.faultUnpierced n c) :=
  (s.returnBound_announces n).trans (State.enterFaulted_announces _ n c _)

theorem State.beginAttempt_announces (s : State) (n : StationNo) (i : Slot) : s.Announces (s.beginAttempt n i) :=
  ((s.modRecord_announces i _).trans (State.modStation_announces _ n _)).trans (State.enterClamping_announces _ n)

theorem State.clampClosed_announces (s : State) (n : StationNo) : s.Announces (s.clampClosed n) := by
  unfold State.clampClosed
  simp only
  split
  · exact .refl s
  · exact (s.pins_announces _).trans (.ite (State.enterTaring_announces _ n))

theorem State.clampOpen_announces (s : State) (n : StationNo) : s.Announces (s.clampOpen n) := by
  have hpin := s.pins_announces { s.pins with clamp := s.pins.clamp.set n false }
  unfold State.clampOpen
  simp only
  split
  · exact .refl s
  split
  case h_6 => exact hpin.trans (State.enterAwait_announces _ n)
  case h_7 => exact hpin
  all_goals exact (hpin.trans (State.abort_announces _ n .clampOpened)).trans (State.raise_announces _ _ _ _)

end Stations

/-! ### Closings and ticks (R18, R94 to R106, R114, R116) -/

section Ticks

theorem State.addTotal_announces (s : State) (i : TotalNo) (n : Nat) : s.Announces (s.addTotal i n) := by
  have htotal : s.Announces { s with totals := s.totals.set i (s.totals[i].add n) } := .of_arb rfl
  unfold State.addTotal
  simp only
  exact htotal.trans (.ite (State.raise_announces _ _ _ _))

theorem State.addClose_announces (s : State) (r : Record) : s.Announces (s.addClose r) :=
  (((s.addTotal_announces _ _).trans (State.addTotal_announces _ _ _)).trans (State.addTotal_announces _ _ _)).trans
    (State.addTotal_announces _ _ _)

theorem State.closeSlot_announces (s : State) (i : Slot) : s.Announces (s.closeSlot i) := by
  cases hr : s.record i with
  | none => rw [State.closeSlot, hr]; exact .refl s
  | some r =>
    have hmoved : s.Announces (s.withdrawn i (r.close s.clock)) := .of_arb rfl
    rw [State.closeSlot_eq hr rfl]
    exact (hmoved.trans (State.addClose_announces _ _)).trans (State.raise_announces _ _ _ _)

theorem State.closeWindow_announces (s : State) (i : Slot) : s.Announces (s.closeWindow i) :=
  (s.modRecord_announces i _).trans (State.closeSlot_announces _ i)

theorem State.withdrawSlot_announces (s : State) (i : Slot) : s.Announces (s.withdrawSlot i) := by
  have hclose := (s.modRecord_announces i fun r => { r with foamVerdict := some .notShredded }).trans
    (State.closeSlot_announces _ i)
  unfold State.withdrawSlot
  simp only
  split
  · exact hclose.trans (State.judgePermit_frame _).announces
  · exact hclose

theorem State.judgeBreakthrough_announces (s : State) (x : TickReadings) : s.Announces (s.judgeBreakthrough x) :=
  fun h => h.report s.clock srcBreakthrough _ _ _

theorem State.tickGain_announces (s : State) (x : Option Nat) : s.Announces (s.tickGain x) := by
  have hdivided : s.Announces (State.divide { s with foam := (s.foam.fix x).foam } x.isNone (s.foam.drain == .active)
      (s.foam.fix x).dEff) := .of_arb (by rw [State.divide_same])
  exact ((hdivided.trans (State.addTotal_announces _ _ _)).trans (State.addTotal_announces _ _ _)).trans
    (State.addTotal_announces _ _ _)

theorem State.countWindows_announces (s : State) : s.Announces s.countWindows :=
  (State.modRecords_frame _ _ s).announces.trans (foldl_announces State.closeWindow_announces _ _)

theorem State.tick_announces (s : State) (x : TickReadings) : s.Announces (s.tick x) := by
  have hbooks := (((s.judgeBreakthrough_announces x).trans (State.tickGain_announces _ x.vessel)).trans
    (State.countWindows_announces _)).trans (u := State.markBreakthrough _) (.ite (State.modRecords_frame _ _ _).announces)
  have hfoam (t : State) (f : Foam) : t.Announces { t with foam := f } := .of_arb rfl
  unfold State.tick
  simp only
  split
  · exact hbooks.trans (hfoam _ _)
  · exact (hbooks.trans (hfoam _ _)).trans (State.judgePermit_frame _).announces

theorem State.tickStep_announces (s : State) : s.Announces s.tickStep := by
  unfold State.tickStep
  split
  · exact .refl s
  · exact s.tick_announces _

theorem State.attributionPass_announces (s : State) (m a : Bool) : s.Announces (s.attributionPass m a) := by
  unfold State.attributionPass
  split
  · split
    · exact .refl s
    · exact s.tickStep_announces
  · exact s.judgeBreakthrough_announces _

end Ticks

/-! ### The atmosphere and the passes (R83 to R91, R122 to R131) -/

section Passes

theorem State.marginRegained_announces (s : State) : s.Announces s.marginRegained :=
  fun h => h.report s.clock srcMarginLost false none none

theorem State.enterTripped_announces (s : State) (c : TripCauses) : s.Announces (s.enterTripped c) := by
  have hmargin : s.Announces (s.tripping c) := s.marginRegained_announces
  exact ((hmargin.trans (State.feederHalt_announces _ _)).trans (State.modRecords_frame _ _ _).announces).trans
    (State.raise_announces _ _ _ _)

theorem State.enterSafe_announces (s : State) (x : AtmState) : s.Announces (s.enterSafe x) := s.marginRegained_announces

theorem State.loseMargin_announces (s : State) (m : Margin) : s.Announces (s.loseMargin m) :=
  fun h => h.report s.clock srcMarginLost _ _ _

theorem State.runHold_announces (s : State) (x : AtmState) : s.Announces (s.runHold x) := by
  unfold State.runHold
  split
  · exact .of_arb rfl
  · exact .ite (s.enterSafe_announces x)

/-- A transition reports MARGIN_LOST or nothing (R88, R89). -/
theorem State.atmTransition_announces (s : State) (r : AtmReadings) (d : Bool) : s.Announces (s.atmTransition r d) := by
  unfold State.atmTransition
  simp only
  split
  · exact .ite (.of_arb rfl)
  · split
    · exact s.enterSafe_announces _
    · split
      · exact s.runHold_announces _
      · exact .of_arb rfl
  · split
    · exact s.enterSafe_announces _
    · exact .ite (s.loseMargin_announces _)
  · split
    · exact s.runHold_announces _
    · exact .of_arb rfl
  · exact .refl s

theorem State.atmMoves_announces (s : State) : s.Announces s.atmMoves := by
  have hreads : s.Announces s.atmReads := .of_arb rfl
  unfold State.atmMoves
  split
  · exact hreads
  · split
    · exact hreads.trans (State.enterTripped_announces _ _)
    · exact hreads.trans (State.atmTransition_announces _ _ _)

theorem State.atmospherePass_announces (s : State) : s.Announces s.atmospherePass := fun h => by
  rw [s.atmospherePass_arb]
  exact (s.atmMoves_announces h).report _ _ _ _ _

theorem State.judgeChannels_announces (s : State) : s.Announces s.judgeChannels := s.report_announces _ _ _ _

theorem State.readPass_announces (s : State) (m a : Bool) (x : PassReader) : s.Announces (s.readPass m a x) := by
  cases x with
  | atmosphere => exact s.atmospherePass_announces
  | attribution => exact s.attributionPass_announces m a
  | feeder => exact s.feederPass_announces
  | stations => exact foldl_announces (fun t n => .ite (t.judgeRings_announces n)) _ s

theorem State.takePass_arb (s : State) (raw : Vector Raw 8) : (s.takePass raw).arb = s.arb := by
  rw [s.takePass_frame raw]

theorem State.passConverted_announces (s : State) (p : Pass) (raw : Vector Raw 8) : s.Announces (s.passConverted p raw) := by
  have hrecords : s.Announces (s.takePass raw) := .of_arb (s.takePass_arb raw)
  refine hrecords.trans ?_
  unfold State.passConverted
  generalize s.takePass raw = t
  exact fun h => h.report t.clock srcChannelFault _ _ _

theorem State.passCompleted_announces (s : State) (raw : Vector Raw 8) (first : List PassReader) (a : Bool) :
    s.Announces (s.passCompleted raw first a) := by
  unfold State.passCompleted
  split
  · exact .refl s
  case h_2 p _ =>
    exact (s.passConverted_announces p raw).trans (foldl_announces (fun t x => t.readPass_announces _ _ x) _ _)

theorem State.groupAConverted_announces (s : State) (r : Raw) : s.Announces (s.groupAConverted r) := by
  unfold State.groupAConverted
  refine State.Announces.trans (State.Announces.trans ?_ (State.judgeChannels_announces _)) (State.stationConverted_announces _ _)
  exact .of_arb rfl

end Passes

/-! ### The line and the configuration (R24, R82, R140, R166 to R176) -/

section Line

theorem State.line_announces (s : State) (l : Line) : s.Announces { s with line := l } := .of_arb rfl

theorem State.setLine_announces (s : State) (l : LineState) : s.Announces (s.setLine l) :=
  (s.line_announces _).trans (State.judgePermit_frame _).announces

theorem State.stopLine_announces (s : State) : s.Announces s.stopLine := by
  unfold State.stopLine
  split
  · exact .refl s
  · have hstops : s.Announces s.stationsStopped := (s.line_announces _).trans (foldl_announces State.stationStop_announces _ _)
    exact (hstops.trans (State.feederHalt_announces _ _)).trans (State.judgePermit_frame _).announces

theorem State.emergencyOn_announces (s : State) : s.Announces s.emergencyOn := by
  have hpin := s.pins_announces { s.pins with emergencyStop := true }
  unfold State.emergencyOn
  simp only
  split
  · exact hpin
  · exact ((hpin.trans (State.line_announces _ _)).trans (State.raise_announces _ _ _ _)).trans (State.stopLine_announces _)

/-- TABLE_NEARLY_FULL is reported after the move that fills or empties the table (R21). -/
theorem State.judgeNearlyFull_announces {s t : State} (h : t.arb = s.arb) : s.Announces t.judgeNearlyFull :=
  (State.Announces.of_arb h).trans (t.report_announces _ _ _ _)

theorem State.clearLine_announces (s : State) : s.Announces s.clearLine := by
  unfold State.clearLine
  exact State.judgeNearlyFull_announces rfl

theorem State.enrol_announces (s : State) (i : Slot) (r : Record) : s.Announces (s.enrol i r) := by
  unfold State.enrol
  exact State.judgeNearlyFull_announces rfl

theorem State.takeClosed_announces (s : State) (tag : Byte) : s.Announces (s.takeClosed tag) := by
  unfold State.takeClosed
  exact State.judgeNearlyFull_announces rfl

theorem State.itemEffect_announces (s : State) (i : Item) : s.Announces (s.itemEffect i) := by
  unfold State.itemEffect State.newPeriod
  split
  · split
    · exact .refl s
    · split <;> exact .of_arb rfl
  split
  · exact .of_arb rfl
  split
  · exact .of_arb rfl
  · exact .ite s.feederPass_announces

theorem State.idle_announces (s : State) : s.Announces s.idle := by
  unfold State.idle
  split <;> exact .of_arb rfl

end Line

/-! ### The owners of the requests (R184) -/

section Owners

variable {owner : State → State × Answer} {Q : State → State → Prop}

theorem Acts.announces (h : Acts owner Q) (hQ : ∀ s t, Q s t → s.Announces t) (s : State) : s.Announces (owner s).1 :=
  fun hs => h.keeps (P := fun t => t.arb.Lawful) (fun s t hs hq => hQ s t hq hs) hs

theorem Acts.announces_arb (h : Acts owner Q) (hQ : ∀ s t, Q s t → t.arb = s.arb) (s : State) : s.Announces (owner s).1 :=
  h.announces (fun s t hq => .of_arb (hQ s t hq)) s

theorem ansSetSource_announces (i l : Byte) (s : State) : s.Announces (ansSetSource i l s).1 := by
  unfold ansSetSource
  split
  · exact .refl s
  · exact fun h => h.setLevel s.clock _ _

/-- Every owner keeps the laws of the notices; the arbiter's own end with a posting (R156, R157, R161). -/
theorem IsOwner.announces (h : IsOwner owner) (s : State) : s.Announces (owner s).1 := by
  cases h with
  | admission =>
    exact (ansAdmit_acts _ _ _ _ _).announces (fun s _ ⟨i, _, _, _, _, _, _, ht⟩ => ht ▸
      s.enrol_announces i _) s
  | query => exact (ansQuery_acts _ _).announces_arb (fun _ _ ht => ht ▸ rfl) s
  | listTable => exact ansListTable_acts.announces_arb (fun _ _ ht => ht ▸ rfl) s
  | withdraw => exact (ansWithdraw_acts _).announces (fun s _ ⟨i, _, _, _, ht⟩ => ht ▸ s.withdrawSlot_announces i) s
  | release =>
    exact (ansRelease_acts _).announces_arb (fun s _ ⟨i, _, _, _, ht⟩ => ht ▸ (s.release i).judgeIdle_frame.arb) s
  | takeClosed =>
    exact (ansTakeClosed_acts _).announces (fun s _ ht => ht.elim (· ▸ .refl _)
      (· ▸ s.takeClosed_announces _)) s
  | beginAttempt =>
    exact (ansBegin_acts _ _).announces (fun s _ ⟨n, i, _, _, _, _, _, _, ht⟩ => ht ▸ s.beginAttempt_announces n i) s
  | abort => exact (ansAbort_acts _).announces (fun s _ ⟨n, _, _, ht⟩ => ht ▸ s.abort_announces n _) s
  | waive => exact (ansWaive_acts _).announces_arb (fun _ _ ⟨_, _, _, _, ht⟩ => ht ▸ rfl) s
  | clearStation => exact (ansClearStation_acts _).announces_arb (fun _ _ ⟨_, _, _, ht⟩ => ht ▸ rfl) s
  | receiverChanged => exact (ansReceiverChanged_acts _).announces_arb (fun _ _ ⟨_, _, _, ht⟩ => ht ▸ rfl) s
  | readStation => exact (ansReadStation_acts _).announces_arb (fun _ _ ⟨_, _, ht⟩ => ht ▸ rfl) s
  | feedClear =>
    exact ansFeedClear_acts.announces (fun s _ ⟨_, ht⟩ => ht ▸ State.Announces.trans (.ite (s.feedEvent_frame _ _).announces)
      (State.freeJam_frame _).announces) s
  | feedReturn =>
    exact ansFeedReturn_acts.announces
      (fun s _ ⟨_, ht⟩ => ht ▸ (s.returnToHead_frame.trans (State.freeJam_frame _)).announces) s
  | holdOn => exact ansHoldOn_acts.announces_arb (fun _ _ ht => ht ▸ rfl) s
  | holdOff => exact ansHoldOff_acts.announces_arb (fun _ _ ht => ht ▸ rfl) s
  | tripReset =>
    exact ansTripReset_acts.announces_arb (fun s _ ⟨_, ht⟩ => ht ▸ s.recover.judgePermit_frame.arb) s
  | drainBegin => exact ansDrainBegin_acts.announces_arb (fun _ _ ⟨_, ht⟩ => ht ▸ rfl) s
  | drainEnd => exact ansDrainEnd_acts.announces_arb (fun _ _ ⟨_, ht⟩ => ht ▸ rfl) s
  | setConfig =>
    exact (ansSetConfig_acts _ _).announces (fun s _ ⟨i, v, ht⟩ => ht ▸ (s.setItem i v).itemEffect_announces i) s
  | readConfig => exact ansReadConfig_acts.announces_arb (fun _ _ ht => ht ▸ rfl) s
  | setChannel => exact (ansSetChannel_acts _ _ _ _ _ _).announces_arb (fun _ _ ⟨_, _, ht⟩ => ht ▸ rfl) s
  | readChannel => exact (ansReadChannel_acts _).announces_arb (fun _ _ ht => ht ▸ rfl) s
  | setSource => exact ansSetSource_announces _ _ s
  | setMask => exact fun h => h.setMask _ _
  | takeNotices => exact fun h => h.take _
  | readStatus => exact ansReadStatus_acts.announces_arb (fun _ _ ht => ht ▸ rfl) s
  | readTotals => exact ansReadTotals_acts.announces_arb (fun _ _ ht => ht ▸ rfl) s
  | clearTotals => exact ansClearTotals_acts.announces_arb (fun _ _ ht => ht ▸ rfl) s
  | lineRun => exact ansLineRun_acts.announces (fun s _ ht => ht ▸ s.setLine_announces _) s
  | lineHold => exact ansLineHold_acts.announces (fun s _ ht => ht ▸ s.setLine_announces _) s
  | lineStop => exact ansLineStop_acts.announces (fun s _ ht => ht ▸ s.stopLine_announces) s
  | lineResume => exact ansLineResume_acts.announces (fun s _ ht => ht ▸ s.setLine_announces _) s
  | clearLine => exact ansClearLine_acts.announces (fun s _ ⟨_, ht⟩ => ht ▸ s.clearLine_announces) s
  | badKind => exact badKind_acts.announces_arb (fun _ _ ht => ht ▸ rfl) s
  | badLength => exact (ansBadLength_acts _).announces_arb (fun _ _ ht => ht ▸ rfl) s

end Owners

/-! ### Every command and every step -/

/-- A reception error raises LINK_ERROR; all else that the line brings is its port's or an owner's (R182). -/
theorem SerialMove.announces {s t : State} (h : SerialMove s t) : s.Announces t := by
  cases h with
  | link l => exact .of_arb rfl
  | error l e => exact fun h => h.raise s.clock srcLinkError _ _
  | request k g ho => exact ho.announces { s with link := s.link.accept }
  | broadcast ho => exact ho.announces { s with link := { s.link.leave .hunt with good := count16 s.link.good } }

theorem State.deviceReset_announces (s : State) (a : BitVec 5) (r x : Bool) : s.Announces (s.deviceReset a r x) :=
  fun _ => State.reset.noticeLaws_iff.mp State.reset_noticeLaw

/-- Every command keeps the laws of the notices. -/
theorem exec_announces (c : Instr) (s t : State) (ht : exec c s = .next t) : s.Announces t := by
  cases hc : onLine c with
  | true => exact (exec_serial c s t hc ht).announces
  | false =>
    cases c
    case deviceReset => cases ht; exact s.deviceReset_announces _ _ _
    case clampClosedTrue n => cases ht; exact s.clampClosed_announces n
    case clampOpened n => cases ht; exact s.clampOpen_announces n
    case clampTimeout n => cases ht; exact .ite (s.faultUnpierced_announces n _)
    case scaleUnsettled n => cases ht; exact .ite (s.faultUnpierced_announces n _)
    case tPierceExpiry n => cases ht; exact .ite (s.enterEvacuating_announces n true)
    case probe n p => cases ht; exact .ite (s.takeProbe_announces n p)
    case tEvacExpiry n p => cases ht; exact s.evacExpired_announces n p
    case tRiseExpiry n => cases ht; exact .ite (s.enterDraining_announces n)
    case tDrainExpiry n => cases ht; exact .ite (s.enterWeighing_announces n)
    case weighingSettleTimeout n => cases ht; exact .ite (s.weigh_announces n _ _ _)
    case gateClosedFalse => cases ht; exact s.gateOpened_announces
    case gateClosedTrue => cases ht; exact s.gateShut_announces
    case tOpenExpiry => cases ht; exact s.openExpired_announces
    case tPassExpiry => cases ht; exact .ite (s.enterJam_announces _)
    case tCloseExpiry => cases ht; exact .ite (s.enterJam_announces _)
    case feedCapture => cases ht; exact s.beamCleared_announces
    case shredderRunningChange b => cases ht; exact s.shredderRuns_announces b
    case emergencyStopAsserted => cases ht; exact s.emergencyOn_announces
    case emergencyStopReleased => cases ht; exact .of_arb rfl
    case flowEdge => cases ht; exact .of_arb rfl
    case atmospherePeriodExpiry => cases ht; exact .ite (.of_arb rfl)
    case groupAConversion r => cases ht; exact s.groupAConverted_announces r
    case groupBPassCompletion raw first a => cases ht; exact s.passCompleted_announces raw first a
    case attributionTick => cases ht; exact s.tickStep_announces
    case pwmPeriodEnd => cases ht; exact .ite (.of_arb rfl)
    case purgeOnTimeEnd => cases ht; exact .ite (.of_arb rfl)
    all_goals cases hc

theorem step_announces (s t : State) (ht : step s = .next t) : s.Announces t := by
  unfold step at ht
  split at ht
  · cases ht
    exact s.idle_announces
  case h_2 rest _ => exact exec_announces _ { s with pending := rest } t ht

/-- Settles O5: a step reaches the arbiter through operations that end with a posting, and a posting leaves the queue within its
bounds and none eligible. -/
theorem noticeLawsKept : Obligations.NoticeLawsKept := fun s t hs ht =>
  t.noticeLaws_iff.mpr (step_announces s t ht (s.noticeLaws_iff.mp hs))

end Sys2Proof.Machine
end

section
/-! The line's requests and the EMERGENCY STOP input (`Obligations.LineRequests`). The owner of a request answers on a state whose
link has counted the frame (R183), so what an answer does is told of the state before by the laws that a change of line state and
a STOP neither read nor change the link. -/

namespace Sys2Proof.Machine

/-! ### STOP and the link (R45, R79, R171) -/

section StopLink

variable (s : State) (l : Link)

theorem State.abort_link (n : StationNo) (c : EndCause) : (s.onLink l).abort n c = (s.abort n c).onLink l := by
  have hst : (s.onLink l).station n = s.station n := rfl
  unfold State.abort
  rw [hst]
  split
  · exact s.enterAbortWeighing_link n c l
  · unfold State.returnBound
    rw [hst]
    rcases (s.station n).bound with _ | i <;> rfl

theorem State.stationStop_link (n : StationNo) : (s.onLink l).stationStop n = (s.stationStop n).onLink l :=
  (if_congr Iff.rfl (s.abort_link l n .stop) rfl).trans (apply_ite (State.onLink · l) _ _ _).symm

theorem State.stationsStopped_link : (s.onLink l).stationsStopped = s.stationsStopped.onLink l :=
  List.foldl_hom (init := { s with line := { s.line with state := .stop } }) (State.onLink · l) fun t n => t.stationStop_link l n

theorem State.returnToHead_link : (s.onLink l).returnToHead = s.returnToHead.onLink l := by
  have hf : (s.onLink l).table.feeding = s.table.feeding := rfl
  unfold State.returnToHead
  rw [hf]
  rcases s.table.feeding with _ | i <;> rfl

theorem State.feederHalt_link (c : JamCause) : (s.onLink l).feederHalt c = (s.feederHalt c).onLink l := by
  by_cases ho : s.feeder.state = .opening
  · rw [State.feederHalt_opening ho, State.feederHalt_opening (s := s.onLink l) ho, s.returnToHead_link]
    exact s.returnToHead.feederToIdle_link l
  · by_cases hp : s.feeder.state = .passing
    · rw [State.feederHalt_passing hp, State.feederHalt_passing (s := s.onLink l) hp]
      rfl
    · rw [State.feederHalt_other ho hp, State.feederHalt_other (s := s.onLink l) ho hp]

/-- The entry to STOP neither reads the link nor changes it. -/
theorem State.enterStop_link : (s.onLink l).enterStop = s.enterStop.onLink l := by
  rw [State.enterStop_eq, State.enterStop_eq, s.stationsStopped_link, State.feederHalt_link]
  exact State.judgePermit_link _ l

theorem State.stopLine_link : (s.onLink l).stopLine = s.stopLine.onLink l :=
  (if_congr Iff.rfl rfl (s.enterStop_link l)).trans (apply_ite (State.onLink · l) _ _ _).symm

theorem State.setLine_link (x : LineState) : (s.onLink l).setLine x = (s.setLine x).onLink l :=
  State.judgePermit_link { s with line := { s.line with state := x } } l

end StopLink

/-! ### What the moves make of the line (R166, R169, R171) -/

section Moves

variable (s : State)

theorem State.setLine_frame (x : LineState) : GateFrame { s with line := { s.line with state := x } } (s.setLine x) :=
  State.judgePermit_frame _

theorem State.enterStop_keeps : s.enterStop.link = s.link ∧ s.enterStop.line.state = .stop := by
  have hstations : StationFrame { s with line := { s.line with state := .stop } } s.stationsStopped :=
    State.stationStops_frame _ _
  rw [s.enterStop_haltFrame, hstations]
  exact ⟨rfl, rfl⟩

theorem State.stopLine_keeps : s.stopLine.link = s.link ∧ s.stopLine.line.state = .stop := by
  unfold State.stopLine
  split
  case isTrue hl => exact ⟨rfl, hl⟩
  case isFalse => exact s.enterStop_keeps

end Moves

/-! ### The owners' answers, by line state (R167, R168, R172) -/

section Answers

variable {s : State}

theorem ansLineRun_ready (hl : s.line.state = .initial ∨ s.line.state = .hold) : ansLineRun s =
    if s.pins.emergencyStop then lineAnswer .emergencyActive s else lineAnswer .done (s.setLine .run) := by
  rcases hl with hl | hl <;> simp only [ansLineRun, hl]

theorem ansLineRun_refused (hl : s.line.state = .run ∨ s.line.state = .stop) : ansLineRun s = lineAnswer .lineState s := by
  rcases hl with hl | hl <;> simp only [ansLineRun, hl]

theorem ansLineHold_run (hl : s.line.state = .run) : ansLineHold s = lineAnswer .done (s.setLine .hold) := by
  simp only [ansLineHold, hl]

theorem ansLineHold_refused (hl : s.line.state ≠ .run) : ansLineHold s = lineAnswer .lineState s := by
  unfold ansLineHold
  split
  · exact absurd ‹_› hl
  all_goals rfl

theorem ansLineResume_stop (hl : s.line.state = .stop) : ansLineResume s =
    if s.pins.emergencyStop then lineAnswer .emergencyActive s else lineAnswer .done (s.setLine .hold) := by
  simp only [ansLineResume, hl]

theorem ansLineResume_refused (hl : s.line.state ≠ .stop) : ansLineResume s = lineAnswer .lineState s := by
  unfold ansLineResume
  split
  · exact absurd ‹_› hl
  all_goals rfl

end Answers

/-! ### Line requests and broadcasts as steps (R166, R186) -/

section Steps

variable {s u : State} {k g : Byte} {owner : State → State × Answer}

/-- A line request's step where its owner leaves `u`: the reply carries the line state of `u`. -/
theorem next_lineRequest {st : Status} (hrx : s.link.rx ≠ .replying)
    (ho : owner s.asked = lineAnswer st (u.onLink s.link.accept)) (hu : u.link = s.link) :
    (.next (s.request k g owner) : Host.Outcome State Fault Refusal)
      = .next (u.replied k g ⟨st, false, [BitVec.ofNat 8 u.line.state.code]⟩) :=
  next_request hrx ho hu

theorem next_lineRefused {st : Status} (hrx : s.link.rx ≠ .replying) (ho : owner s.asked = lineAnswer st s.asked) :
    (.next (s.request k g owner) : Host.Outcome State Fault Refusal)
      = .next (s.replied k g ⟨st, false, [BitVec.ofNat 8 s.line.state.code]⟩) :=
  next_lineRequest hrx ho rfl

theorem next_lineMoved {x : LineState} (hrx : s.link.rx ≠ .replying)
    (ho : owner s.asked = lineAnswer .done (s.asked.setLine x)) :
    (.next (s.request k g owner) : Host.Outcome State Fault Refusal)
      = .next ((s.setLine x).replied k g ⟨.done, false, [BitVec.ofNat 8 x.code]⟩) := by
  have hline : (s.setLine x).line.state = x := by rw [s.setLine_frame]
  rw [next_lineRequest (u := s.setLine x) hrx (ho.trans (congrArg _ (s.setLine_link _ x))) (by rw [s.setLine_frame]), hline]

/-- A broadcast whose owner leaves `u`, whatever the link holds, is counted and gets no reply (R186). -/
theorem State.broadcast_counted (hrx : s.link.rx ≠ .replying) (ho : ∀ l, (owner (s.onLink l)).1 = u.onLink l) :
    s.broadcast owner = { u with
      link := { s.link with
        rx := .hunt, buffer := [], checkHigh := none, expected := none, gap := false
        good := min 65535 (s.link.good + 1) } } := by
  rw [State.broadcast, if_neg (by simp [State.replying, hrx]), ← count16_eq]
  exact ho { s.link.leave .hunt with good := count16 s.link.good }

end Steps

/-- LINE HOLD as a broadcast: the move in RUN alone (R168). -/
theorem ansLineHold_link (s : State) (l : Link) :
    (ansLineHold (s.onLink l)).1 = (if s.line.state = .run then s.setLine .hold else s).onLink l := by
  split
  case isTrue hl => rw [ansLineHold_run (s := s.onLink l) hl]; exact s.setLine_link l .hold
  case isFalse hl => rw [ansLineHold_refused (s := s.onLink l) hl]; rfl

/-- EMERGENCY STOP becoming asserted (R170). -/
theorem State.emergencyOn_event {s : State} (hm : s.line.emergencyMark = false) : s.emergencyOn = State.stopLine { s with
    pins := { s.pins with emergencyStop := true }
    line := { s.line with emergencyMark := true }
    arb := s.arb.raise s.clock srcEmergency none (some (.line s.line.state)) } :=
  if_neg (by simp [hm])

/-- Settles O45: each request by its line state and the EMERGENCY STOP pin, then the stops. -/
theorem lineRequests : Obligations.LineRequests := by
  refine ⟨fun s tag moved hrx hmoved => ?_, fun s tag => ⟨fun hrx => ⟨?_, ?_⟩, ?_, fun hm => ?_, rfl⟩⟩
  · obtain rfl : moved = s.setLine := funext hmoved
    refine ⟨fun hl he => next_lineMoved hrx ?_, fun hl he => next_lineRefused hrx ?_, fun hl => next_lineRefused hrx ?_,
      fun hl => next_lineMoved hrx (ansLineHold_run (s := s.asked) hl),
      fun hl => next_lineRefused hrx (ansLineHold_refused (s := s.asked) hl),
      congrArg _ (State.broadcast_counted hrx (ansLineHold_link s)),
      fun hl he => next_lineMoved hrx ?_, fun hl he => ?_,
      fun hl => next_lineRefused hrx (ansLineResume_refused (s := s.asked) hl)⟩
    · exact (ansLineRun_ready (s := s.asked) hl).trans (if_neg (by simp [he]))
    · exact (ansLineRun_ready (s := s.asked) hl).trans (if_pos he)
    · exact ansLineRun_refused (s := s.asked) hl
    · exact (ansLineResume_stop (s := s.asked) hl).trans (if_neg (by simp [he]))
    · have hask : ansLineResume s.asked = lineAnswer .emergencyActive s.asked :=
        (ansLineResume_stop (s := s.asked) hl).trans (if_pos he)
      exact (next_lineRefused hrx hask).trans (by rw [hl]; rfl)
  · obtain ⟨hlink, hstop⟩ := s.stopLine_keeps
    have hask : ansLineStop s.asked = lineAnswer .done (s.stopLine.onLink s.link.accept) := congrArg _ (s.stopLine_link _)
    exact (next_lineRequest hrx hask hlink).trans (by rw [hstop]; rfl)
  · exact congrArg _ (State.broadcast_counted hrx s.stopLine_link)
  · rintro hm u rfl
    exact congrArg _ (State.emergencyOn_event hm)
  · exact congrArg _ (if_pos hm)

end Sys2Proof.Machine
end

section
/-! Device reset and the step after it (`Obligations.DeviceReset`): every block is at rest, so a STOP changes the line state
alone. -/

namespace Sys2Proof.Machine

/-! ### STOP where nothing runs (R171) -/

theorem State.stationStops_idle {s : State} (h : ∀ n, (s.station n).state.running = false) (l : List StationNo) :
    l.foldl State.stationStop s = s := by
  induction l with
  | nil => rfl
  | cons n l ih => rw [List.foldl_cons, State.stationStop_idle (h n), ih]

/-- With no attempt running and the Feeder IDLE the entry to STOP changes the line state alone. -/
theorem State.enterStop_idle {s : State} (h : ∀ n, (s.station n).state.running = false) (hf : s.feeder.state = .idle) :
    s.enterStop = { s with line := { s.line with state := .stop } } := by
  have hstations : s.stationsStopped = { s with line := { s.line with state := .stop } } :=
    State.stationStops_idle (s := { s with line := { s.line with state := .stop } }) h _
  rw [State.enterStop_eq, hstations, State.feederHalt_other, State.judgePermit_other] <;> simp [hf]

/-! ### The reading of EMERGENCY STOP (R166, log 10) -/

theorem Pins.firstReading_asserted {p : Pins} (h : p.emergencyStop = true) : p.firstReading = [.emergencyStopAsserted] := if_pos h

theorem Pins.firstReading_released {p : Pins} (h : p.emergencyStop = false) : p.firstReading = [] := if_neg (by simp [h])

theorem Pins.asserted_same {p : Pins} (h : p.emergencyStop = true) : { p with emergencyStop := true } = p := by rw [← h]

/-- An assertion where the line has not stopped and nothing runs is raised, and stops the line (R170). -/
theorem State.emergencyOn_idle {s : State} (h : ∀ n, (s.station n).state.running = false) (hf : s.feeder.state = .idle)
    (hl : s.line.state ≠ .stop) (hm : s.line.emergencyMark = false) (he : s.pins.emergencyStop = true) :
    s.emergencyOn = { s with
      line := { state := .stop, emergencyMark := true }
      arb := s.arb.raise s.clock srcEmergency none (some (.line s.line.state)) } := by
  rw [State.emergencyOn_event hm, Pins.asserted_same he]
  exact (if_neg hl).trans (State.enterStop_idle h hf)

theorem step_pending {s : State} {c : Instr} {rest : List Instr} (h : s.pending = c :: rest) :
    step s = exec c { s with pending := rest } := by
  rw [step, h]

theorem State.deviceReset_idle (s : State) (a : BitVec 5) (r x : Bool) (n : StationNo) :
    ((s.deviceReset a r x).station n).state.running = false := by
  have hst : (s.deviceReset a r x).station n = stationReset := State.fresh_station (sampledAddress a) r x n
  rw [hst]
  rfl

/-- Settles O18: device reset is the fresh state by definition; an asserted input stops a line on which nothing runs. -/
theorem deviceReset : Obligations.DeviceReset := by
  refine fun s addr rate stations => ⟨s.deviceReset addr rate stations, rfl, rfl, rfl, rfl, fun he => ?_, fun he => ?_⟩
  · exact congrArg (· ++ s.pending) (Pins.firstReading_released he)
  · have hpending : (s.deviceReset addr rate stations).pending = .emergencyStopAsserted :: s.pending :=
      congrArg (· ++ s.pending) (Pins.firstReading_asserted he)
    rw [step_pending hpending]
    exact congrArg _ (State.emergencyOn_idle (s := { s.deviceReset addr rate stations with pending := s.pending })
      (s.deviceReset_idle addr rate stations) rfl nofun rfl he)

end Sys2Proof.Machine
end

section
/-! The characters on the line (`Obligations.CharactersOnTheLine`): what an address character makes of the Link Port, what a
character without mark does at each place of a frame, and the frame whose Length is not its Kind's. -/

namespace Sys2Proof.Machine

/-! ### Address characters (R179, R182) -/

section Address

variable {s : State} {l : Link} {a : Byte}

/-- The port opens a frame for its own address and for the address of every part. -/
theorem Link.hear_named (h : a.toNat = l.address.toNat ∨ a.toNat = 31) : l.hear a = { l with
    rx := .receiving, broadcast := decide (a.toNat = 31), buffer := [], checkHigh := none, expected := none, gap := true } :=
  if_pos (by simpa [Link.named] using h)

/-- The frame of another address is counted and skipped. -/
theorem Link.hear_other (h : a.toNat ≠ l.address.toNat ∧ a.toNat ≠ 31) : l.hear a = { l with
    rx := .skipping, buffer := [], checkHigh := none, expected := none, gap := false
    notMine := min 65535 (l.notMine + 1) } := by
  rw [Link.hear, if_neg (by simpa [Link.named] using h), count16_eq]
  rfl

theorem State.heardAddress_between (h : s.link.rx = .hunt ∨ s.link.rx = .skipping) (a : Byte) :
    s.heardAddress a = { s with link := s.link.hear a } := by
  rcases h with h | h <;> rw [State.heardAddress, h]

/-- The port that has counted the frame under way as short (R182, R183). -/
def Link.cutShort (l : Link) : Link := { l with gapErrors := min 65535 (l.gapErrors + 1) }

/-- An address character within a frame abandons it as short, and is heard then. -/
theorem State.heardAddress_within (h : s.link.rx = .receiving) (a : Byte) : s.heardAddress a = { s with
    link := s.link.cutShort.hear a
    arb := s.arb.raise s.clock srcLinkError none (some (.link .short)) } := by
  rw [State.heardAddress, h, count16_eq]
  rfl

end Address

/-! ### Characters without mark, by their place in the frame (R180) -/

section Place

variable {s : State} {h : Byte} {k : Nat}

theorem State.heardChar_unheard (hrx : s.link.rx ≠ .receiving) (c : Byte) : s.heardChar c = s := if_neg hrx

theorem State.heardChar_length (hrx : s.link.rx = .receiving) (he : s.link.expected = none) (c : Byte) :
    s.heardChar c = if 240 < c.toNat then s.checkError .overlong else s.storeChar c (c.toNat + 4) := by
  simp only [State.heardChar, if_pos hrx, he]

theorem State.heardChar_covered (hrx : s.link.rx = .receiving) (he : s.link.expected = some (k + 3)) (c : Byte) :
    s.heardChar c = s.storeChar c (k + 2) := by
  simp only [State.heardChar, if_pos hrx, he]
  exact if_pos (by omega)

theorem State.heardChar_checkHigh (hrx : s.link.rx = .receiving) (he : s.link.expected = some 2) (hc : s.link.checkHigh = none)
    (c : Byte) : s.heardChar c = { s with link := { s.link with checkHigh := some c, expected := some 1, gap := true } } := by
  simp only [State.heardChar, if_pos hrx, he, hc]
  rfl

theorem State.heardChar_checkLow (hrx : s.link.rx = .receiving) (he : s.link.expected = some 1) (hc : s.link.checkHigh = some h)
    (c : Byte) : s.heardChar c = s.frameComplete h c := by
  simp only [State.heardChar, if_pos hrx, he, hc]
  rfl

theorem State.frameComplete_mismatch {c : Byte} (hcrc : crc s.link.buffer ≠ h ++ c) :
    s.frameComplete h c = s.checkError .mismatch := if_neg hcrc

end Place

/-! ### A good frame of another Length than its Kind's (R184, R187) -/

section Length

variable {s : State} {h c len kind tag : Byte} {body : List Byte} {n : Nat}

/-- A good frame addressed to this part is a request of its Kind, Tag and body. -/
theorem State.frameComplete_addressed (hb : s.link.broadcast = false) (hbuf : s.link.buffer = len :: kind :: tag :: body)
    (hcrc : crc s.link.buffer = h ++ c) : s.frameComplete h c = s.takeRequest kind tag (answerFrame kind tag body) := by
  rw [State.frameComplete, if_pos hcrc, State.goodFrame, hb, hbuf]
  rfl

theorem answerFrame_badLength (hk : bodyLength kind = some n) (hn : body.length ≠ n) :
    answerFrame kind tag body = ansBadLength kind := by
  rw [answerFrame, hk]
  exact if_neg hn

/-- BAD_LENGTH, with the line state for a line request (log 32). -/
theorem ansBadLength_eq (kind : Byte) (s : State) : ansBadLength kind s = (s, ⟨.badLength, false,
    if 30 ≤ kind.toNat ∧ kind.toNat ≤ 33 then [BitVec.ofNat 8 s.line.state.code] else []⟩) := by
  unfold ansBadLength
  split
  case isTrue hk => rw [if_pos (of_decide_eq_true hk)]; rfl
  case isFalse hk => rw [if_neg (mt decide_eq_true hk)]; rfl

/-- A frame taken while the port receives is the request it carries. -/
theorem State.takeRequest_eq_request (hrx : s.link.rx ≠ .replying) (owner : State → State × Answer) :
    s.takeRequest kind tag owner = s.request kind tag owner := (if_neg (by simp [State.replying, hrx])).symm

end Length

/-- Steps that leave the same state. -/
theorem next_congr {s t : State} (h : s = t) : (.next s : Host.Outcome State Fault Refusal) = .next t := congrArg _ h

/-- Settles O15: the address by the receiver's state and by whom it names; the other characters by their place in the frame. -/
theorem charactersOnTheLine : Obligations.CharactersOnTheLine := by
  refine ⟨fun s a => ⟨fun hrx => ⟨fun ha => next_congr ?_, fun ha => next_congr ?_⟩,
      fun hrx => ⟨fun ha => next_congr ?_, fun ha => next_congr ?_⟩⟩,
    fun s c => ⟨fun hrx => next_congr (State.heardChar_unheard hrx c), fun hrx => ⟨fun he hc => next_congr ?_,
      fun he hc => next_congr ?_, fun k he => next_congr (State.heardChar_covered hrx he c),
      fun he hh => next_congr (State.heardChar_checkHigh hrx he hh c), fun h he hh hcrc => next_congr ?_,
      fun h len kind tag body n hb he hh hbuf hcrc hk hn => ?_⟩⟩⟩
  · rw [State.heardAddress_between hrx, Link.hear_named ha]
  · rw [State.heardAddress_between hrx, Link.hear_other ha]
  · rw [State.heardAddress_within hrx, Link.hear_named (l := s.link.cutShort) ha]
    rfl
  · rw [State.heardAddress_within hrx, Link.hear_other (l := s.link.cutShort) ha]
    rfl
  · exact (State.heardChar_length hrx he c).trans (if_neg (by omega))
  · exact (State.heardChar_length hrx he c).trans (if_pos hc)
  · exact (State.heardChar_checkLow hrx he hh c).trans (State.frameComplete_mismatch hcrc)
  · have hreq : s.link.rx ≠ .replying := by simp [hrx]
    have hheard : s.heardChar c = s.request kind tag (ansBadLength kind) := by
      rw [State.heardChar_checkLow hrx he hh, State.frameComplete_addressed hb hbuf hcrc, answerFrame_badLength hk hn,
        State.takeRequest_eq_request hreq]
    exact (congrArg _ hheard).trans (next_request hreq (ansBadLength_eq kind s.asked))

end Sys2Proof.Machine
end

section
/-! A request's frame, character by character (`Obligations.FrameCompletesItsRequest`): the fields of a body as the Request
Handler reads them back, the request that a good frame of each Kind is, and what the port holds after each character. -/

namespace Sys2Proof.Machine

/-! ### The fields of a body, read back (R184, R188) -/

theorem wordOf_word4 (w : Word) : wordOf (word4 w) = w := by
  refine BitVec.eq_of_getLsbD_eq fun i hi => ?_
  simp only [wordOf, word4, List.foldl_cons, List.foldl_nil]
  interval_cases i <;> simp

section Fields

variable (tag : Byte) (ident charge key value zero span low high band : Word)
  (declared foamClass foamAgent selector station item channel : Byte)

theorem answerFrame_admit : answerFrame 1 tag (word4 ident ++ [declared] ++ word4 charge ++ [foamClass, foamAgent])
    = ansAdmit ident declared charge foamClass foamAgent := by
  change ansAdmit (wordOf (word4 ident)) declared (wordOf (word4 charge)) foamClass foamAgent = _
  rw [wordOf_word4, wordOf_word4]

theorem answerFrame_query : answerFrame 2 tag (selector :: word4 key) = ansQuery selector key :=
  congrArg (ansQuery selector) (wordOf_word4 key)

theorem answerFrame_withdraw : answerFrame 4 tag (word4 ident) = ansWithdraw ident := congrArg ansWithdraw (wordOf_word4 ident)

theorem answerFrame_release : answerFrame 5 tag (word4 ident) = ansRelease ident := congrArg ansRelease (wordOf_word4 ident)

theorem answerFrame_begin : answerFrame 7 tag (word4 ident ++ [station]) = ansBegin ident station :=
  congrArg (ansBegin · station) (wordOf_word4 ident)

theorem answerFrame_waive : answerFrame 9 tag (word4 ident) = ansWaive ident := congrArg ansWaive (wordOf_word4 ident)

theorem answerFrame_setConfig : answerFrame 20 tag (item :: word4 value) = ansSetConfig item value :=
  congrArg (ansSetConfig item) (wordOf_word4 value)

theorem answerFrame_setChannel :
    answerFrame 22 tag (channel :: (word4 zero ++ word4 span ++ word4 low ++ word4 high ++ word4 band))
      = ansSetChannel channel zero span low high band := by
  change ansSetChannel channel (wordOf (word4 zero)) (wordOf (word4 span)) (wordOf (word4 low)) (wordOf (word4 high))
    (wordOf (word4 band)) = _
  simp only [wordOf_word4]

end Fields

/-- A Kind outside the catalogue is answered BAD_KIND, whatever its body. -/
theorem answerFrame_badKind {kind tag : Byte} {body : List Byte} (hk : kindInCatalogue kind = false) :
    answerFrame kind tag body = fun s => (s, bare .badKind) := by
  rw [answerFrame, bodyLength, hk]
  rfl

/-! ### The request that a good frame is (R184, R186) -/

section Frames

variable {c : Instr} {kind tag : Byte} {body : List Byte}

/-- No request has more than the 21 body characters of SET CHANNEL. -/
theorem requestFrame_length_le (hf : requestFrame c = some (kind, tag, body)) : body.length ≤ 21 := by
  cases c
  all_goals cases hf
  all_goals exact Nat.le_of_ble_eq_true rfl

/-- A request that is no broadcast is the Request Handler's answer to its frame. -/
theorem exec_addressed (hwf : c.wellFormed = true) (hf : requestFrame c = some (kind, tag, body)) (hb : isBroadcast c = false)
    (s : State) : exec c s = .next (s.request kind tag (answerFrame kind tag body)) := by
  cases c
  case admitAppliance => cases hf; rw [answerFrame_admit]; rfl
  case queryAppliance => cases hf; rw [answerFrame_query]; rfl
  case withdraw => cases hf; rw [answerFrame_withdraw]; rfl
  case releaseToShred => cases hf; rw [answerFrame_release]; rfl
  case beginExtraction => cases hf; rw [answerFrame_begin]; rfl
  case waiveExtraction => cases hf; rw [answerFrame_waive]; rfl
  case setConfig => cases hf; rw [answerFrame_setConfig]; rfl
  case setChannel => cases hf; rw [answerFrame_setChannel]; rfl
  case badKind =>
    cases hf
    have hk : kindInCatalogue kind = false := by simpa [Instr.wellFormed] using hwf
    rw [answerFrame_badKind hk]
    exact congrArg _ (if_neg (by simp [hk]))
  case lineHold | lineStop => cases (show _ = false from hb); cases hf; rfl
  all_goals cases hf
  all_goals rfl

/-- A broadcast request is of Kind LINE HOLD or LINE STOP with no body, and is its owner's move without a reply. -/
theorem exec_broadcastFrame (hf : requestFrame c = some (kind, tag, body)) (hb : isBroadcast c = true) (s : State) :
    broadcastTaken kind (BitVec.ofNat 8 body.length) = true ∧ exec c s = .next (s.broadcast (answerKind kind tag body)) := by
  cases c
  case lineHold | lineStop => cases (show _ = true from hb); cases hf; exact ⟨rfl, rfl⟩
  all_goals cases hb

/-- Whether the frame under way is a broadcast (R179). -/
def State.marked (s : State) (broadcast : Bool) : State := { s with link := { s.link with broadcast } }

/-- The good frame of a request is the request's command, where the port has marked it as a broadcast if it is one. -/
theorem State.goodFrame_marked {s : State} (hwf : c.wellFormed = true) (hf : requestFrame c = some (kind, tag, body))
    (hrx : s.link.rx ≠ .replying) :
    .next ((s.marked (isBroadcast c)).goodFrame kind tag body) = exec c (s.marked (isBroadcast c)) := by
  cases hb : isBroadcast c with
  | false =>
    rw [exec_addressed hwf hf hb, ← State.takeRequest_eq_request (s := s.marked false) hrx]
    rfl
  | true =>
    obtain ⟨htaken, hexec⟩ := exec_broadcastFrame hf hb (s.marked true)
    rw [hexec, State.broadcast, if_neg (by simp [State.replying, State.marked, hrx])]
    exact congrArg _ (if_pos htaken)

end Frames

/-! ### Characters one after another (R179, R180) -/

theorem runAll_cons {s t : State} {c : Instr} (h : exec c s = .next t) (cs : List Instr) : runAll s (c :: cs) = runAll t cs := by
  rw [runAll, h]

/-- The port within a frame: the covered characters it holds, and how many are still to come. -/
def State.within (s : State) (broadcast : Bool) (buffer : List Byte) (expected : Nat) : State :=
  { s with link := { s.link.begin broadcast with buffer, expected := some expected } }

section Within

variable {s : State} {b : Bool}

/-- The address character and the Length start the frame. -/
theorem runAll_opened {a len : Byte} (hrx : s.link.rx = .hunt ∨ s.link.rx = .skipping)
    (ha : a.toNat = s.link.address.toNat ∨ a.toNat = 31) (hb : decide (a.toNat = 31) = b) (hlen : len.toNat ≤ 240)
    (cs : List Instr) : runAll s (.addressCharacter a :: .characterWithoutMark len :: cs)
      = runAll (s.within b [len] (len.toNat + 4)) cs := by
  have hopen : exec (.addressCharacter a) s = .next { s with link := s.link.begin b } := by
    refine next_congr ?_
    rw [State.heardAddress_between hrx, Link.hear_named ha, hb]
    rfl
  have hstored : exec (.characterWithoutMark len) { s with link := s.link.begin b }
      = .next (s.within b [len] (len.toNat + 4)) :=
    next_congr ((State.heardChar_length (s := { s with link := s.link.begin b }) rfl rfl len).trans (if_neg (by omega)))
  rw [runAll_cons hopen, runAll_cons hstored]

/-- The covered characters are stored in their order, until the two check characters are still to come. -/
theorem runAll_covered (cs buffer : List Byte) (rest : List Instr) :
    runAll (s.within b buffer (cs.length + 2)) (cs.map .characterWithoutMark ++ rest)
      = runAll (s.within b (buffer ++ cs) 2) rest := by
  induction cs generalizing buffer with
  | nil => rw [List.append_nil]; rfl
  | cons c cs ih =>
    have hstored : exec (.characterWithoutMark c) (s.within b buffer ((c :: cs).length + 2))
        = .next (s.within b (buffer ++ [c]) (cs.length + 2)) :=
      next_congr (State.heardChar_covered (s := s.within b buffer ((c :: cs).length + 2)) (k := cs.length) rfl rfl c)
    rw [List.map_cons, List.cons_append, runAll_cons hstored, ih, List.append_assoc]
    rfl

/-- The port before the last character of a frame. -/
def State.awaitingLast (s : State) (broadcast : Bool) (buffer : List Byte) (checkHigh : Byte) : State :=
  { s with link := { s.link.begin broadcast with buffer, expected := some 1, checkHigh := some checkHigh } }

/-- The two check characters complete the frame. -/
theorem runAll_checked (buffer : List Byte) (h l : Byte) :
    runAll (s.within b buffer 2) [.characterWithoutMark h, .characterWithoutMark l]
      = .next ((s.awaitingLast b buffer h).frameComplete h l) := by
  have hhigh : exec (.characterWithoutMark h) (s.within b buffer 2) = .next (s.awaitingLast b buffer h) :=
    next_congr (State.heardChar_checkHigh (s := s.within b buffer 2) rfl rfl rfl h)
  have hlow : exec (.characterWithoutMark l) (s.awaitingLast b buffer h)
      = .next ((s.awaitingLast b buffer h).frameComplete h l) :=
    next_congr (State.heardChar_checkLow (s := s.awaitingLast b buffer h) rfl rfl rfl l)
  rw [runAll_cons hhigh, runAll_cons hlow]
  rfl

end Within

/-! ### The whole frame (R181, R191) -/

/-- The characters that the check of a frame covers. -/
def covered (kind tag : Byte) (body : List Byte) : List Byte := BitVec.ofNat 8 body.length :: kind :: tag :: body

theorem extractLsb'_high_low (x : BitVec 16) : x = x.extractLsb' 8 8 ++ x.extractLsb' 0 8 := by
  rw [BitVec.extractLsb'_append_extractLsb'_eq_extractLsb' (by rfl)]
  exact BitVec.extractLsb'_eq_self.symm

section Whole

variable {s : State} {a kind tag : Byte} {body : List Byte} {b : Bool}

/-- The second check character makes a good frame of the characters stored; what the port held before is given up. -/
theorem State.awaitingLast_complete {h l : Byte} (hcrc : crc (covered kind tag body) = h ++ l) :
    (s.awaitingLast b (covered kind tag body) h).frameComplete h l = (s.marked b).goodFrame kind tag body := by
  rw [State.frameComplete]
  refine (if_pos hcrc).trans ?_
  cases b <;> rfl

/-- The characters of a frame are the good frame of its Kind, Tag and body. -/
theorem runAll_frame (hrx : s.link.rx = .hunt ∨ s.link.rx = .skipping)
    (ha : a.toNat = s.link.address.toNat ∨ a.toNat = 31) (hb : decide (a.toNat = 31) = b) (hlen : body.length ≤ 240) :
    runAll s (.addressCharacter a :: (frameChars kind tag body).map .characterWithoutMark)
      = .next ((s.marked b).goodFrame kind tag body) := by
  have hnat : (BitVec.ofNat 8 body.length).toNat = body.length := by rw [BitVec.toNat_ofNat]; omega
  have hchars : (frameChars kind tag body).map Instr.characterWithoutMark
      = .characterWithoutMark (BitVec.ofNat 8 body.length) :: ((kind :: tag :: body).map .characterWithoutMark
        ++ [.characterWithoutMark ((crc (covered kind tag body)).extractLsb' 8 8),
          .characterWithoutMark ((crc (covered kind tag body)).extractLsb' 0 8)]) := by
    rw [frameChars, List.map_append]
    rfl
  calc runAll s (.addressCharacter a :: (frameChars kind tag body).map .characterWithoutMark)
      = runAll (s.within b [BitVec.ofNat 8 body.length] ((kind :: tag :: body).length + 2)) _ := by
        rw [hchars, runAll_opened hrx ha hb (by omega), hnat]
        rfl
    _ = runAll (s.within b (covered kind tag body) 2) _ := runAll_covered _ _ _
    _ = .next ((s.awaitingLast b (covered kind tag body) _).frameComplete _ _) := runAll_checked _ _ _
    _ = .next ((s.marked b).goodFrame kind tag body) :=
        next_congr (State.awaitingLast_complete (extractLsb'_high_low _))

end Whole

/-- Settles O14: the characters complete a good frame, which is the request that it carries. -/
theorem frameCompletesItsRequest : Obligations.FrameCompletesItsRequest := by
  intro c s a kind tag body hwf hf hrx ha
  have hfree : s.link.rx ≠ .replying := by rcases hrx with h | h <;> simp [h]
  have hnamed : a.toNat = s.link.address.toNat ∨ a.toNat = 31 := ha.elim (fun h => .inr h.2) fun h => .inl h.2.1
  have hmark : decide (a.toNat = 31) = isBroadcast c := by
    rcases ha with ⟨hb, h31⟩ | ⟨hb, -, h31⟩ <;> simp [hb, h31]
  rw [runAll_frame hrx hnamed hmark ((requestFrame_length_le hf).trans (by decide)), State.goodFrame_marked hwf hf hfree]
  rfl

end Sys2Proof.Machine
end

section
/-! The port while it owes or sends a reply (`Obligations.LostWhileReplying`), the reception errors and the answers of the
Request Handler itself (`Obligations.ReceptionErrors`). -/

namespace Sys2Proof.Machine

/-! ### While a reply is due (R179, R182, R185) -/

section Lost

variable {s : State}

theorem State.replying_of (h : s.link.rx = .replying) : s.replying = true := by simp [State.replying, h]

theorem State.broadcast_lost {owner : State → State × Answer} (h : s.link.rx = .replying) : s.broadcast owner = s :=
  if_pos (State.replying_of h)

theorem State.heardAddress_lost (h : s.link.rx = .replying) (a : Byte) : s.heardAddress a = s := by
  rw [State.heardAddress, h]

/-- A request of any Kind, addressed or broadcast, is lost with its frame (log 7). -/
theorem exec_request_lost {c : Instr} (h : s.link.rx = .replying) (hc : (requestFrame c).isSome = true) :
    exec c s = .next s := by
  cases hb : isBroadcast c with
  | false =>
    obtain hs | ⟨k, g, owner, -, hs⟩ := exec_request c s hc hb
    · exact hs
    · rw [hs, State.request_lost h]
  | true =>
    obtain ⟨owner, -, hs⟩ := exec_broadcast c s hb
    rw [hs, State.broadcast_lost h]

end Lost

/-- Settles O12: a request or broadcast is lost, and no event of reception finds the port in RECEIVING. -/
theorem lostWhileReplying : Obligations.LostWhileReplying := by
  intro c s h hc
  have hrx : s.link.rx ≠ .receiving := by simp [h]
  obtain hc | ⟨k, l, rfl⟩ | ⟨a, rfl⟩ | ⟨a, rfl⟩ | rfl | rfl | ⟨x, rfl⟩ := hc
  · exact exec_request_lost h hc
  · exact next_congr (if_pos (by rw [State.replying_of h, Bool.or_true]))
  · exact next_congr (State.heardAddress_lost h a)
  · exact next_congr (State.heardChar_unheard hrx a)
  · exact next_congr (if_pos h)
  · exact next_congr (if_neg fun hg => hrx hg.1)
  · exact next_congr (if_neg hrx)

/-! ### Reception errors (R182, R183) -/

section Errors

variable {s : State}

/-- Between frames a framing error is counted and announced; no frame is under way. -/
theorem State.framingError_between (h : s.link.rx = .hunt ∨ s.link.rx = .skipping) : s.framingError = { s with
    link := { s.link with framingErrors := min 65535 (s.link.framingErrors + 1) }
    arb := s.arb.raise s.clock srcLinkError none (some (.link .framing)) } := by
  have hother : s.link.rx ≠ .receiving ∧ s.link.rx ≠ .replying := by rcases h with h | h <;> simp [h]
  simp only [State.framingError, if_neg hother.1, if_neg hother.2, count16_eq]
  rfl

/-- Within a frame it abandons the frame too. -/
theorem State.framingError_within (h : s.link.rx = .receiving) : s.framingError = { s with
    link := { s.link with
      rx := .hunt, buffer := [], checkHigh := none, expected := none, gap := false
      framingErrors := min 65535 (s.link.framingErrors + 1) }
    arb := s.arb.raise s.clock srcLinkError none (some (.link .framing)) } := by
  have hother : s.link.rx ≠ .replying := by simp [h]
  simp only [State.framingError, if_pos h, if_neg hother, count16_eq]
  rfl

theorem State.gapError_within (h : s.link.rx = .receiving) (hg : s.link.gap = true) : s.gapError = { s with
    link := { s.link with
      rx := .hunt, buffer := [], checkHigh := none, expected := none, gap := false
      gapErrors := min 65535 (s.link.gapErrors + 1) }
    arb := s.arb.raise s.clock srcLinkError none (some (.link .gap)) } := by
  rw [State.gapError, if_pos ⟨h, hg⟩, count16_eq]
  rfl

/-- A frame that fails its check ends; one whose Length is above 240 is skipped to its end. -/
theorem State.checkError_within (h : s.link.rx = .receiving) (x : CheckCause) : s.checkError x = { s with
    link := { s.link with
      rx := if x = .mismatch then .hunt else .skipping
      buffer := [], checkHigh := none, expected := none, gap := false
      checkErrors := min 65535 (s.link.checkErrors + 1) }
    arb := s.arb.raise s.clock srcLinkError none (some (.link .check)) } := by
  rw [← count16_eq]
  cases x <;> exact if_pos h

end Errors

/-! ### Frames that no owner takes (R184, R186) -/

theorem broadcastTaken_iff (kind length : Byte) :
    broadcastTaken kind length = true ↔ (kind = 31 ∨ kind = 32) ∧ length = 0 := by simp [broadcastTaken]

theorem kindInCatalogue_outside {kind : Byte} (h : kind.toNat = 0 ∨ 34 < kind.toNat) : ¬kindInCatalogue kind = true := by
  simp only [kindInCatalogue, Bool.and_eq_true, decide_eq_true_eq]
  omega

theorem State.ignoreBroadcast_eq (s : State) : s.ignoreBroadcast = { s with
    link := { s.link with
      rx := .hunt, buffer := [], checkHigh := none, expected := none, gap := false
      notMine := min 65535 (s.link.notMine + 1) } } := by
  rw [State.ignoreBroadcast, count16_eq]
  rfl

/-- Settles O16: the errors by the receiver's state, then the frames that reach no owner. -/
theorem receptionErrors : Obligations.ReceptionErrors := by
  refine ⟨fun s => ⟨fun h => next_congr (State.framingError_between h), fun h => next_congr (State.framingError_within h),
    fun h hg => next_congr (State.gapError_within h hg), fun h x => next_congr (State.checkError_within h x)⟩,
    fun s h => ⟨fun tag kind hk => ?_, fun kind length hk => next_congr ?_⟩⟩
  · exact (congrArg _ (if_neg (kindInCatalogue_outside hk))).trans (next_request h rfl)
  · have hheard : ¬(broadcastTaken kind length || s.replying) = true := by
      rw [Bool.or_eq_true, broadcastTaken_iff]
      exact not_or.mpr ⟨hk, by simpa [State.replying] using h⟩
    exact (if_neg hheard).trans s.ignoreBroadcast_eq

end Sys2Proof.Machine
end

section
/-! A reply on the line, and the check (`Obligations.RepliesAndTheirCheck`). The check register loses nothing: each bit, and so
each character, makes another register of another one. -/

namespace Sys2Proof.Machine

/-! ### The check register (R181) -/

theorem crcBit_low (r : BitVec 16) : (crcBit r).getLsbD 0 = r.msb := by
  unfold crcBit
  split <;> simp_all

/-- The bit that a shift loses is the lowest of the next register. -/
theorem crcBit_injective : Function.Injective crcBit := by
  intro r q h
  have hmsb : r.msb = q.msb := by rw [← crcBit_low, h, crcBit_low]
  have hshift : r <<< 1 = q <<< 1 := by
    unfold crcBit at h
    rw [hmsb] at h
    split at h
    · exact BitVec.xor_left_inj _ |>.mp h
    · exact h
  ext i hi
  by_cases hlast : i = 15
  · subst hlast
    simpa [BitVec.msb_eq_getLsbD_last] using hmsb
  · simpa [show i + 1 < 16 by omega] using congrArg (·.getLsbD (i + 1)) hshift

theorem crcChar_eq (r : BitVec 16) (c : Byte) : crcChar r c = crcBit^[8] (r ^^^ (c.zeroExtend 16 <<< 8)) := rfl

theorem crcChar_register (c : Byte) : Function.Injective (crcChar · c) := fun _ _ h =>
  (BitVec.xor_left_inj _).mp (crcBit_injective.iterate 8 h)

theorem zeroExtend_shift_injective : Function.Injective fun c : Byte => c.zeroExtend 16 <<< 8 := by
  intro c d h
  bv_omega

theorem crcChar_character (r : BitVec 16) : Function.Injective (crcChar r) := fun _ _ h =>
  zeroExtend_shift_injective ((BitVec.xor_right_inj _).mp (crcBit_injective.iterate 8 h))

theorem foldl_crcChar_injective (v : List Byte) : Function.Injective (v.foldl crcChar) := by
  induction v with
  | nil => exact Function.injective_id
  | cons c v ih => exact ih.comp (crcChar_register c)

theorem crc_of_changed (u v : List Byte) {c d : Byte} (h : c ≠ d) : crc (u ++ c :: v) ≠ crc (u ++ d :: v) := by
  intro hcrc
  rw [crc, crc, List.foldl_append, List.foldl_append] at hcrc
  exact h (crcChar_character _ (foldl_crcChar_injective v hcrc))

/-- The manual's example, one character at a time. -/
theorem crc_of_digits : crc [49, 50, 51, 52, 53, 54, 55, 56, 57] = 0x29B1 := by
  have h1 : crcChar 0xFFFF#16 49 = 0xC782 := by decide
  have h2 : crcChar 0xC782 50 = 0x3DBA := by decide
  have h3 : crcChar 0x3DBA 51 = 0x5BCE := by decide
  have h4 : crcChar 0x5BCE 52 = 0x5349 := by decide
  have h5 : crcChar 0x5349 53 = 0x4560 := by decide
  have h6 : crcChar 0x4560 54 = 0x2EF4 := by decide
  have h7 : crcChar 0x2EF4 55 = 0x7718 := by decide
  have h8 : crcChar 0x7718 56 = 0xA12B := by decide
  have h9 : crcChar 0xA12B 57 = 0x29B1 := by decide
  simp only [crc, List.foldl_cons, List.foldl_nil, h1, h2, h3, h4, h5, h6, h7, h8, h9]

/-! ### The obligation (R178, R185, R187) -/

/-- Settles O17: the transmission by its definition, the check by its register. -/
theorem repliesAndTheirCheck : Obligations.RepliesAndTheirCheck := by
  refine ⟨fun s h => ⟨fun r hr htx => next_congr ?_, fun htx => next_congr ?_⟩, crc_of_digits, fun u v _ _ => crc_of_changed u v⟩
  · rw [State.startReply, hr]
    exact if_pos (by simp [State.replying, h, htx])
  · exact if_pos (by simp [State.replying, h, htx])

end Sys2Proof.Machine
end

section
/-! The layouts of the records and of the notice (`Obligations.Layouts`): each is a row of fields, as the contents of the reading
requests are; a bit field is a number whose bits are the marks. -/

namespace Sys2Proof.Machine

/-! ### Bit fields (R191) -/

theorem bitField_cons (x : Bool) (bs : List Bool) : bitField (x :: bs) = Nat.bit x (bitField bs) := by
  cases x <;> rfl

theorem bitField_testBit (bs : List Bool) (b : Nat) : (bitField bs).testBit b = bs.getD b false := by
  induction bs generalizing b with
  | nil => simp [bitField]
  | cons x bs ih =>
    rw [bitField_cons]
    cases b with
    | zero => simp
    | succ b => rw [Nat.testBit_bit_succ, ih, List.getD_cons_succ]

theorem bitField_lt (bs : List Bool) : bitField bs < 2 ^ bs.length := by
  induction bs with
  | nil => exact Nat.one_pos
  | cons x bs ih =>
    rw [List.length_cons, Nat.pow_succ]
    cases x <;> simp [bitField_cons, Nat.bit] <;> omega

/-- Two characters that hold a bit field are a number whose bits are its marks. -/
theorem bits_of_field {two : List Byte} {bs : List Bool} (h : two = num2 (bitField bs)) (hbs : bs.length ≤ 16) :
    ∃ w : BitVec 16, two = [BitVec.ofNat 8 (w.toNat / 256), BitVec.ofNat 8 w.toNat] ∧ ∀ b, w.getLsbD b = bs.getD b false := by
  have hlt : bitField bs < 2 ^ 16 := (bitField_lt bs).trans_le (Nat.pow_le_pow_right (by decide) hbs)
  have hnat : (BitVec.ofNat 16 (bitField bs)).toNat = bitField bs := by rw [BitVec.toNat_ofNat, Nat.mod_eq_of_lt hlt]
  refine ⟨BitVec.ofNat 16 (bitField bs), by rw [hnat]; exact h, fun b => ?_⟩
  rw [BitVec.getLsbD, hnat, bitField_testBit]

theorem TripCauses.code_eq (c : TripCauses) : c.code = bitField [c.lflHigh, c.o2High, c.sensor] := by
  obtain ⟨l, o, x⟩ := c
  cases l <;> cases o <;> cases x <;> rfl

/-- The bits of a trip value are its causes (R192). -/
theorem Value.word_trip (c : TripCauses) (b : Nat) :
    (Value.word (.trip c)).getLsbD b = [c.lflHigh, c.o2High, c.sensor].getD b false := by
  have hlt : c.code < 2 ^ 32 := by
    rw [c.code_eq]
    exact (bitField_lt _).trans (by simp)
  rw [BitVec.getLsbD, Value.word, BitVec.toNat_ofNat, Nat.mod_eq_of_lt hlt, c.code_eq, bitField_testBit]

/-! ### The layouts as rows (R188, R191, R192) -/

theorem Record.chars_row (r : Record) : r.chars = List.flatten [
    char1 r.slot.val, word4 r.ident, word4 r.seq, char1 (declaredCode r.declared), num2 r.charge, char1 r.foamClass.val,
    char1 r.foamAgent.code, num2 r.expected, char1 r.attempts, char1 (r.usedNumber 0), char1 (r.usedNumber 1),
    char1 (gasCode r.measured), num2 r.mr, num2 r.mo, num2 (r.rho.getD 0), char1 ((r.verdict.map Verdict.code).getD 0),
    word4 (r.releaseOrder.getD 0), word4 (r.feedTime.getD 0), num4 r.foam, num2 (r.gamma.getD 0),
    char1 ((r.foamVerdict.map FoamVerdict.code).getD 0), word4 (r.closeTime.getD 0), num2 r.flags.field, num2 r.presence,
    char1 r.phase.code, char1 ((r.bound.map fun n => n.val + 1).getD 0), char1 (r.ticks.getD 0)] := by
  unfold Record.chars Record.closingChars
  simp only [List.flatten_cons, List.flatten_nil, List.append_nil, List.append_assoc]

/-- The closing record is the first fifty characters of the appliance record. -/
theorem Record.closingChars_eq (r : Record) : r.closingChars = r.chars.take 50 := by
  rw [Record.chars, List.append_assoc, List.append_assoc, List.take_left' r.closingChars_length]

theorem Notice.chars_row (n : Notice) : n.chars = List.flatten [
    char1 n.source.val, char1 n.level.val, word4 n.time, char1 (bitField [n.subject.isSome, n.value.isSome]),
    char1 (n.subject.getD 0), word4 ((n.value.map Value.word).getD 0), char1 n.repeats] := by
  rw [Notice.chars]
  simp only [List.flatten_cons, List.flatten_nil, List.append_nil, List.append_assoc]

theorem Notice.chars_length (n : Notice) : n.chars.length = 13 := by simp [Notice.chars]

theorem bitField_pair (a b : Bool) : bitField [a, b] = (if a = true then 1 else 0) + if b = true then 2 else 0 := by
  cases a <;> cases b <;> rfl

theorem pendingChars_row (p : Option Pending) : pendingChars p = List.flatten [
    char1 (markOf p.isSome), char1 (markOf p.isSome), word4 ((p.map Pending.time).getD 0),
    char1 (markOf (p.bind Pending.subject).isSome), char1 ((p.bind Pending.subject).getD 0),
    char1 (markOf (p.bind Pending.value).isSome), word4 (((p.bind Pending.value).map Value.word).getD 0),
    char1 (markOf p.isSome), char1 ((p.map Pending.repeats).getD 0)] := by
  rw [pendingChars]
  simp only [optWord_eq, opt1, markByte_eq, Option.isSome_map, List.flatten_cons, List.flatten_nil, List.append_nil, List.append_assoc]

theorem pendingChars_length (p : Option Pending) : (pendingChars p).length = 15 := by simp [pendingChars]

/-- Settles O26: the layouts are rows of fields; the codes are those of the tables. -/
theorem layouts : Obligations.Layouts := by
  refine ⟨fun content one two four bits hone htwo hfour hbits => ?_, fun i x g v l c fc j => ⟨rfl, rfl, rfl, rfl, rfl, rfl, rfl,
    Value.word_trip c⟩, rfl, rfl, rfl, rfl, rfl, rfl, rfl, rfl, rfl, rfl, rfl, rfl, rfl, rfl, rfl, rfl, rfl, rfl⟩
  simp only [hbits, hone, htwo, hfour]
  clear hone htwo hfour hbits one two four bits
  refine ⟨fun r h => ?_, fun n h => ?_, fun p h => ?_⟩
  · obtain ⟨h0, h1, h5, h9, h10, h12, h13, h14, h16, h17, h18, h19, h20, h22, h24, h26, h27, h31, h35, h39, h41, h42, h46, h48, h50,
      h51, h52, -⟩ : RowAt content 0 _ := (h.trans r.chars_row) ▸ rowAt_flatten _
    exact ⟨h ▸ r.closingChars_eq, one_of_field h0, h1, h5, one_of_field h9, h10, one_of_field h12, one_of_field h13, h14,
      one_of_field h16, one_of_field h17, one_of_field h18, one_of_field h19, h20, h22, h24, one_of_field h26, h27, h31, h35, h39,
      one_of_field h41, h42, bits_of_field h46 (by simp), bits_of_field h48 (by simp), one_of_field h50,
      one_of_field h51, one_of_field h52⟩
  · obtain ⟨h0, h1, h2, h6, h7, h8, h12, -⟩ : RowAt content 0 _ := (h.trans n.chars_row) ▸ rowAt_flatten _
    rw [← bitField_pair]
    exact ⟨h ▸ n.chars_length, one_of_field h0, one_of_field h1, h2, one_of_field h6, one_of_field h7, h8, one_of_field h12⟩
  · obtain ⟨h0, h1, h2, h6, h7, h8, h9, h13, h14, -⟩ : RowAt content 0 _ := (h.trans (pendingChars_row p)) ▸ rowAt_flatten _
    exact ⟨h ▸ pendingChars_length p, one_of_field h0, one_of_field h1, h2, one_of_field h6, one_of_field h7, one_of_field h8, h9,
      one_of_field h13, one_of_field h14⟩

end Sys2Proof.Machine
end

section
/-! PROOF. A step with a command in front of the queue. -/

namespace Sys2Proof.Machine

/-- Settles O1: putting a command in front and taking it gives the state back, so both parts are the step on a queue that
holds a command. -/
theorem stepTakesFront : Obligations.StepTakesFront := fun c s =>
  have hfront : step (s.putFront c) = exec c { s.putFront c with pending := s.pending } := step_pending rfl
  ⟨hfront, fun _ h => step_pending h⟩

end Sys2Proof.Machine
end
